-- ==== Sys2Proof/Config.lean ====
section
/-! DEFINITION. What an implementation fixes (the shape of the parameter record of
spec/00_scope.md R6; its values are `Sys2Proof.Machine.params`) and the FREE VALUES: opaque
constants without a body for everything the spec calls unspecified. Each is applied to the counter
`State.draws`, so that nothing can be proved about the value one draw gives. -/

namespace Sys2Proof.Config

/-- The order of the two checksum bytes at the frame offsets 6 and 7. -/
inductive ByteOrder where
  /-- low byte at offset 6, high byte at offset 7 -/
  | lowFirst
  /-- high byte at offset 6, low byte at offset 7 -/
  | highFirst
deriving DecidableEq, Repr

/-- The named parameters of R6, every row of its table; the types of Sys2Proof/Word.lean take their
lengths and widths from the record's value. -/
structure Params where
  /-- `FRAME_LEN`, in bytes -/
  frameLen      : Nat
  /-- `MARKER` -/
  marker        : BitVec 8
  /-- `OP_WIDTH`, in bits -/
  opWidth       : Nat
  /-- `PAYLOAD_LEN`, in bytes -/
  payloadLen    : Nat
  /-- `CRC_MSG_LEN`, in bytes -/
  crcMsgLen     : Nat
  /-- `CRC_WIDTH`, in bits -/
  crcWidth      : Nat
  /-- `RSP_OFFSET`, added modulo `2 ^ opWidth` -/
  rspOffset     : Nat
  /-- the checksum byte order -/
  checksumOrder : ByteOrder
  /-- `CRC_POLY`, a word of `crcWidth` bits -/
  crcPoly       : Nat
  /-- `CRC_INIT`, a word of `crcWidth` bits -/
  crcInit       : Nat
  /-- `CRC_REFIN` -/
  crcRefin      : Bool
  /-- `CRC_REFOUT` -/
  crcRefout     : Bool
  /-- `CRC_XOROUT`, a word of `crcWidth` bits -/
  crcXorout     : Nat
deriving DecidableEq, Repr

/-- The serial parameters of the transport at the block's ports (R175): recorded for a system model,
read by no rule of the block. -/
structure Serial where
  baud        : Nat
  dataBits    : Nat
  stopBits    : Nat
  parity      : Bool
  flowControl : Bool
deriving DecidableEq, Repr

/-- FREE: `REQ_OP` after `RST` or `CLEAR` (R37, U1; log 3). -/
opaque freeReqOp : Nat → BitVec 8

/-- FREE: `TXBUF` after `RST` or `CLEAR`, as a frame word (R37, U1; log 3). -/
opaque freeTxWord : Nat → BitVec 64

/-- FREE: `RXBUF` after `RST` or `CLEAR`, as a frame word (R37, U1; log 3). -/
opaque freeRxWord : Nat → BitVec 64

/-- FREE: the code of `RESULT` after `RST` or `CLEAR` (R37, U1; log 3). -/
opaque freeResultCode : Nat → BitVec 2

/-- FREE: `tx_data` while `tx_valid` is 0 (R28, U5; log 4). -/
opaque freeTxData : Nat → BitVec 8

/-- FREE: `rsp_status` while `rsp_valid` is 0 (R29, U3; log 4). -/
opaque freeRspStatus : Nat → BitVec 2

/-- FREE: `rsp_marker` while `rsp_valid` is 0 or the result is IO_ERROR (R29, U3, U4; log 4). -/
opaque freeRspMarker : Nat → BitVec 8

/-- FREE: `rsp_op` while `rsp_valid` is 0 or the result is IO_ERROR (R29, U3, U4; log 4). -/
opaque freeRspOp : Nat → BitVec 8

/-- FREE: `rsp_payload` while `rsp_valid` is 0 or the result is IO_ERROR (R29, U3, U4; log 4). -/
opaque freeRspPayload : Nat → BitVec 32

/-- FREE: `rsp_checksum` while `rsp_valid` is 0 or the result is IO_ERROR (R29, U3, U4; log 4). -/
opaque freeRspChecksum : Nat → BitVec 16

end Sys2Proof.Config
end

