-- ==== Sys2Proof/Machine/Params.lean ====
section
/-! DEFINITION. The values of the named parameters (spec/00_scope.md R6, R7), of the op_code table
(spec/30_encoding.md R67) and of the serial line (spec/60_exceptions.md R175). The spec calls its
literals unaudited (R6, D24; log 15) and the CRC parameters general knowledge (R7, G1; log 5). -/

namespace Sys2Proof.Machine

/-- The parameters of R6 and R7: the one place where their values stand (D24). -/
def params : Config.Params where
  frameLen      := 8
  marker        := 0xAA
  opWidth       := 8
  payloadLen    := 4
  crcMsgLen     := 6
  crcWidth      := 16
  rspOffset     := 127
  checksumOrder := .lowFirst
  crcPoly       := 0x1021
  crcInit       := 0x0000
  crcRefin      := false
  crcRefout     := false
  crcXorout     := 0x0000

/-- "115200 baud, 8 data bits, 1 stop bit, no parity, no flow control" (R175). -/
def serial : Config.Serial where
  baud        := 115200
  dataBits    := 8
  stopBits    := 1
  parity      := false
  flowControl := false

end Sys2Proof.Machine
end

