-- ==== Sys2Proof/Word.lean ====
section
/-! DEFINITION. The words and the small named types of the block XFC (spec/00_scope.md R8 to R10,
spec/10_state.md R20 to R27). Types only: every helper over them stands in Sys2Proof/Machine/. -/

namespace Sys2Proof

/-- A byte is 8 bits, bit 0 the least significant (R8). -/
abbrev Byte := BitVec 8

/-- An op_code, of `OP_WIDTH` bits (R6). As below, the number is read off the parameter record when
the definition is elaborated, so that the type is `BitVec 8` and no proof has to unfold the record. -/
abbrev OpCode := BitVec (reduceProj% (delta% Machine.params).opWidth)

/-- The words of the checksum unit, of `CRC_WIDTH` bits (R6). -/
abbrev Half := BitVec (reduceProj% (delta% Machine.params).crcWidth)

/-- The payload bytes `payload[0..3]`, `PAYLOAD_LEN` of them (R6). -/
abbrev Payload := Vector Byte (reduceProj% (delta% Machine.params).payloadLen)

/-- The bytes the checksum covers: marker, op_code, payload, `CRC_MSG_LEN` of them (R6, R14). -/
abbrev Message := Vector Byte (reduceProj% (delta% Machine.params).crcMsgLen)

/-- A frame of `FRAME_LEN` bytes in wire order, `F[i]` the byte at frame offset `i` (R6, R9, R60). -/
abbrev Frame := Vector Byte (reduceProj% (delta% Machine.params).frameLen)

/-- The frame word `W(F)`: byte `i` in bits `8i+7:8i` (R9). -/
abbrev FrameWord := BitVec 64

/-- The field record of a frame, as `Decode` returns it (R101). -/
structure Fields where
  marker   : Byte
  opCode   : OpCode
  payload  : Payload
  checksum : Half
deriving DecidableEq, Repr

/-- `PHASE`: four values with no numeric encoding (R21). -/
inductive Phase where
  | idle
  | tx
  | rx
  | done
deriving DecidableEq, Repr

/-- The four outcomes of an exchange that `RESULT` can hold (R27, R160). -/
inductive Result where
  | ok
  | protocolMismatch
  | checksumError
  | ioError
deriving DecidableEq, Repr

end Sys2Proof
end

