-- ==== Sys2Proof/Machine/Operands.lean ====
section
/-! DEFINITION. Operand assembly: the frame map and its byte order (spec/20_memory.md R41, R42,
R44), the frame word (spec/00_scope.md R9), the port packing and the response op_code
(spec/30_encoding.md R64 to R66), `Decode` and its inverse (spec/42_frame_deserializer.md R101,
R103). Pure functions: none reads the state. -/

namespace Sys2Proof.Machine

/-- The low byte of a 16-bit word, `v[7:0]`. -/
def lowByte (v : Half) : Byte := v.extractLsb' 0 8

/-- The high byte of a 16-bit word, `v[15:8]`. -/
def highByte (v : Half) : Byte := v.extractLsb' 8 8

/-- `{hi, lo}`: a 16-bit word from its bytes, little-endian in the frame (R42, R65). -/
def halfOfBytes (hi lo : Byte) : Half := hi ++ lo

/-- The checksum's bytes for the offsets 6 and 7, in the order of R6: low byte first (R42, R65). -/
def checksumBytes (v : Half) : Byte × Byte :=
  match params.checksumOrder with
  | .lowFirst => (lowByte v, highByte v)
  | .highFirst => (highByte v, lowByte v)

/-- The checksum whose bytes stand at the offsets 6 and 7, in the order of R6 (R42, R65). -/
def checksumOfBytes (b6 b7 : Byte) : Half :=
  match params.checksumOrder with
  | .lowFirst => halfOfBytes b7 b6
  | .highFirst => halfOfBytes b6 b7

/-- `rsp_op(x) = (x + 127) mod 256`, an 8-bit add with the carry dropped (R66). -/
def rspOp (x : OpCode) : OpCode := x + BitVec.ofNat _ params.rspOffset

/-- The inverse of `rspOp`, `(r + 129) mod 256` (R66). -/
def requestOpOf (r : OpCode) : OpCode := r - BitVec.ofNat _ params.rspOffset

/-- `payload[i] = cmd_payload[8i+7:8i]` (R64, D18). -/
def unpackPayload (w : BitVec 32) : Payload :=
  #v[w.extractLsb' 0 8, w.extractLsb' 8 8, w.extractLsb' 16 8, w.extractLsb' 24 8]

/-- `rsp_payload[8i+7:8i] = payload[i]` (R64, D18). -/
def packPayload (p : Payload) : BitVec 32 := p[3] ++ p[2] ++ p[1] ++ p[0]

/-- The frame word `W(F)` (R9). -/
def frameWord (f : Frame) : FrameWord :=
  f[7] ++ f[6] ++ f[5] ++ f[4] ++ f[3] ++ f[2] ++ f[1] ++ f[0]

/-- The frame whose word is `w`: byte `i` is bits `8i+7:8i` (R9). -/
def frameOfWord (w : FrameWord) : Frame :=
  #v[w.extractLsb' 0 8, w.extractLsb' 8 8, w.extractLsb' 16 8, w.extractLsb' 24 8,
     w.extractLsb' 32 8, w.extractLsb' 40 8, w.extractLsb' 48 8, w.extractLsb' 56 8]

/-- Frame bytes 2 to 5, in index order (R44, R64). -/
def framePayload (f : Frame) : Payload := #v[f[2], f[3], f[4], f[5]]

/-- The checksum stored in a frame, `{F[7], F[6]}` (R65). -/
def frameChecksum (f : Frame) : Half := checksumOfBytes f[6] f[7]

/-- The six bytes a frame's checksum covers, `F[0..5]` (R84). -/
def frameMessage (f : Frame) : Message := #v[f[0], f[1], f[2], f[3], f[4], f[5]]

/-- The CRC message of a request: marker, op_code, payload (R83). -/
def requestMessage (op : OpCode) (p : Payload) : Message :=
  #v[params.marker, op, p[0], p[1], p[2], p[3]]

/-- `Decode(F)`: split 8 bytes into the fields, validating nothing (R101). -/
def decodeFields (f : Frame) : Fields where
  marker   := f[0]
  opCode   := f[1]
  payload  := framePayload f
  checksum := frameChecksum f

/-- The inverse of `Decode`: the frame with these fields (R103, R41). -/
def frameOfFields (d : Fields) : Frame :=
  #v[d.marker, d.opCode, d.payload[0], d.payload[1], d.payload[2], d.payload[3],
     (checksumBytes d.checksum).1, (checksumBytes d.checksum).2]

end Sys2Proof.Machine
end

