-- ==== Sys2Proof/Syntax.lean ====
section
/-! DEFINITION. The whole syntax: the 21 listed op_codes (spec/30_encoding.md R67), the 59 rows of
spec/opcode_table.json as the constructors of `Instr`, and what the environment can put before the
block in one step (`Stimulus`: a sample of the input ports R28, a frame, or a line of the event
notation R72). -/

namespace Sys2Proof

/-- The listed op_codes, in op_code order (R67). -/
inductive ListedOp where
  /-- `HEARTBEAT`, "heartbeat" (R130) -/
  | heartbeat
  /-- `GET_TEMP`, "get temperature" (R131) -/
  | getTemp
  /-- `GET_HUMIDITY`, "get humidity" (R132) -/
  | getHumidity
  /-- `GET_DEW_POINT`, "get dew point" (R133) -/
  | getDewPoint
  /-- `GET_SETPOINT_OFFSET`, "get setpoint-offset" (R134) -/
  | getSetpointOffset
  /-- `GET_P_COEF`, "get P coef" (R135) -/
  | getPCoef
  /-- `GET_I_COEF`, "get I coef" (R136) -/
  | getICoef
  /-- `GET_D_COEF`, "get D coef" (R137) -/
  | getDCoef
  /-- `GET_POWER_LEVEL`, "get power level" (R138) -/
  | getPowerLevel
  /-- `GET_HW_VERSION`, "get hardware version" (R139) -/
  | getHwVersion
  /-- `GET_FW_VERSION`, "get firmware version" (R140) -/
  | getFwVersion
  /-- `SET_SETPOINT_OFFSET`, "set setpoint-offset" (R141) -/
  | setSetpointOffset
  /-- `SET_P_COEF`, "set P coef" (R142) -/
  | setPCoef
  /-- `SET_I_COEF`, "set I coef" (R143) -/
  | setICoef
  /-- `SET_D_COEF`, "set D coef" (R144) -/
  | setDCoef
  /-- `SET_ENABLE`, "enable/disable (payload byte 0: 0=enable, 1=disable)" (R145) -/
  | setEnable
  /-- `SET_POWER_LEVEL`, "set power level" (R146) -/
  | setPowerLevel
  /-- `RESET_BOARD`, "reset board" (R147) -/
  | resetBoard
  /-- `GET_BOARD_TEMP`, "get board temp" (R148) -/
  | getBoardTemp
  /-- `GET_TEC_VOLTAGE`, "get TEC voltage" (R149) -/
  | getTecVoltage
  /-- `GET_TEC_CURRENT`, "get TEC current" (R150) -/
  | getTecCurrent
deriving DecidableEq, Repr

/-- One constructor per row of the opcode table. REQ rows `X` carry the frame fields the row leaves
open, payload and checksum (R61); RSP rows `X.RSP` carry marker, payload and checksum (R62). -/
inductive Instr where
  | heartbeat (p : Payload) (sum : Half)
  | getTemp (p : Payload) (sum : Half)
  | getHumidity (p : Payload) (sum : Half)
  | getDewPoint (p : Payload) (sum : Half)
  | getSetpointOffset (p : Payload) (sum : Half)
  | getPCoef (p : Payload) (sum : Half)
  | getICoef (p : Payload) (sum : Half)
  | getDCoef (p : Payload) (sum : Half)
  | getPowerLevel (p : Payload) (sum : Half)
  | getHwVersion (p : Payload) (sum : Half)
  | getFwVersion (p : Payload) (sum : Half)
  | setSetpointOffset (p : Payload) (sum : Half)
  | setPCoef (p : Payload) (sum : Half)
  | setICoef (p : Payload) (sum : Half)
  | setDCoef (p : Payload) (sum : Half)
  | setEnable (p : Payload) (sum : Half)
  | setPowerLevel (p : Payload) (sum : Half)
  | resetBoard (p : Payload) (sum : Half)
  | getBoardTemp (p : Payload) (sum : Half)
  | getTecVoltage (p : Payload) (sum : Half)
  | getTecCurrent (p : Payload) (sum : Half)
  | heartbeatRsp (marker : Byte) (p : Payload) (sum : Half)
  | getTempRsp (marker : Byte) (p : Payload) (sum : Half)
  | getHumidityRsp (marker : Byte) (p : Payload) (sum : Half)
  | getDewPointRsp (marker : Byte) (p : Payload) (sum : Half)
  | getSetpointOffsetRsp (marker : Byte) (p : Payload) (sum : Half)
  | getPCoefRsp (marker : Byte) (p : Payload) (sum : Half)
  | getICoefRsp (marker : Byte) (p : Payload) (sum : Half)
  | getDCoefRsp (marker : Byte) (p : Payload) (sum : Half)
  | getPowerLevelRsp (marker : Byte) (p : Payload) (sum : Half)
  | getHwVersionRsp (marker : Byte) (p : Payload) (sum : Half)
  | getFwVersionRsp (marker : Byte) (p : Payload) (sum : Half)
  | setSetpointOffsetRsp (marker : Byte) (p : Payload) (sum : Half)
  | setPCoefRsp (marker : Byte) (p : Payload) (sum : Half)
  | setICoefRsp (marker : Byte) (p : Payload) (sum : Half)
  | setDCoefRsp (marker : Byte) (p : Payload) (sum : Half)
  | setEnableRsp (marker : Byte) (p : Payload) (sum : Half)
  | setPowerLevelRsp (marker : Byte) (p : Payload) (sum : Half)
  | resetBoardRsp (marker : Byte) (p : Payload) (sum : Half)
  | getBoardTempRsp (marker : Byte) (p : Payload) (sum : Half)
  | getTecVoltageRsp (marker : Byte) (p : Payload) (sum : Half)
  | getTecCurrentRsp (marker : Byte) (p : Payload) (sum : Half)
  /-- `Encode(op, p)` and generic REQ row (R90, R74) -/
  | encode (op : Byte) (p : Payload) (sum : Half)
  /-- `Decode(F)` and generic RSP row (R101, R74) -/
  | decode (marker op : Byte) (p : Payload) (sum : Half)
  /-- `CRC.BIT(c, d)` (R81) -/
  | crcBit (c : Half) (d : Bool)
  /-- `CRC.BYTE(c, b)` (R82) -/
  | crcByte (c : Half) (b : Byte)
  /-- `CRC6(m)` (R83) -/
  | crc6 (m : Message)
  /-- `CRC.CHECK(F)` (R84) -/
  | crcCheck (f : Frame)
  /-- `OPCHK(x, r)` (R110) -/
  | opchk (x r : Byte)
  /-- `CSCHK(F)` (R111) -/
  | cschk (f : Frame)
  /-- `Validate(x, F)` (R112) -/
  | validate (x : Byte) (f : Frame)
  /-- `SEND(op, p)`, one whole exchange (R119) -/
  | send (op : Byte) (p : Payload)
  /-- event `CMD(op, p)` (R91) -/
  | cmd (op : Byte) (p : Payload)
  /-- event `TXB` (R92) -/
  | txb
  /-- event `RXB(b)` (R100) -/
  | rxb (b : Byte)
  /-- event `TAKE` (R117) -/
  | take
  /-- event `ABORT` (R171) -/
  | abort
  /-- event `CLEAR` (R172) -/
  | clear
  /-- event `RST` (R185) -/
  | rst
deriving DecidableEq, Repr

/-- The direction of travel that tells the two frame spaces apart (R69, R74). -/
inductive Direction where
  | request
  | response
deriving DecidableEq, Repr

/-- The four kinds of row of the opcode table (R74). -/
inductive Format where
  | req
  | rsp
  | func
  | event
deriving DecidableEq, Repr

/-- One sample of the block's input ports (R28). -/
structure Pins where
  rst        : Bool := false
  clear      : Bool := false
  ioAbort    : Bool := false
  cmdValid   : Bool := false
  cmdOp      : OpCode := 0
  cmdPayload : BitVec 32 := 0
  txReady    : Bool := false
  rxValid    : Bool := false
  rxData     : Byte := 0
  rspReady   : Bool := false
deriving DecidableEq, Repr

/-- What the environment does in one step (log 1). -/
inductive Stimulus where
  /-- a frame word in one of the two frame spaces -/
  | frame (d : Direction) (f : Frame)
  /-- a sample of the input ports, from which at most one event fires -/
  | ports (p : Pins)
  /-- a line of the notation R72, or an operation asked for on its own -/
  | line (i : Instr)
deriving DecidableEq, Repr

end Sys2Proof
end

