-- ==== Sys2Proof/Machine/Select.lean ====
section
/-! DEFINITION. How the seven events are selected by the input ports (spec/10_state.md R28) and which
one fires when several inputs are asserted together (spec/70_reset_and_hazards.md R195). -/

namespace Sys2Proof.Machine

/-- Is an exchange in phase TX or RX, where `ABORT` is effective (R171)? -/
def inFlight : Phase → Bool
  | .tx | .rx => true
  | .idle | .done => false

/-- The one handshake the phase enables, when its input is asserted (R28): the four handshakes are
mutually exclusive because exactly one of the four handshake outputs is 1. -/
def handshake (ph : Phase) (p : Pins) : Option Instr :=
  match ph with
  | .idle => if p.cmdValid then some (.cmd p.cmdOp (unpackPayload p.cmdPayload)) else none
  | .tx   => if p.txReady then some .txb else none
  | .rx   => if p.rxValid then some (.rxb p.rxData) else none
  | .done => if p.rspReady then some .take else none

/-- The event a sample of the input ports fires in a phase: `rst`, then `clear`, then `io_abort`,
then the enabled handshake. `io_abort` in IDLE or DONE does not block the handshake of that cycle; it
fires the `ABORT` those phases ignore when there is none (R28, R171, R195, A11, A12; log 16).
DESIGN CHOICE (log 16): with `io_abort` and `rsp_ready` both 1 in TX or RX, `ABORT` fires alone, and
the `TAKE` that the phase DONE it leaves would enable waits for a later sample. -/
def select (ph : Phase) (p : Pins) : Option Instr :=
  if p.rst then some .rst
  else if p.clear then some .clear
  else if p.ioAbort && inFlight ph then some .abort
  else match handshake ph p with
    | some e => some e
    | none => if p.ioAbort then some .abort else none

/-- Does this operation put the block into the state after reset (R172, R185)? -/
def isReset (i : Instr) : Bool := i = .rst || i = .clear

/-- Does this stimulus reset the block, whatever the phase? -/
def resets (x : Stimulus) : Bool :=
  match x with
  | .line i => isReset i
  | .ports p => p.rst || p.clear
  | .frame _ _ => false

end Sys2Proof.Machine
end

