-- ==== Sys2Proof/Machine/Opcodes.lean ====
section
/-! DEFINITION. The op_code map (spec/30_encoding.md R67): the number of each listed op_code, and
the listed op_code of a number in the request and in the response space. -/

namespace Sys2Proof.Machine

/-- The request op_code of a listed command (R67). -/
def opCode : ListedOp → OpCode
  | .heartbeat => 0x00
  | .getTemp => 0x01
  | .getHumidity => 0x02
  | .getDewPoint => 0x03
  | .getSetpointOffset => 0x04
  | .getPCoef => 0x05
  | .getICoef => 0x06
  | .getDCoef => 0x07
  | .getPowerLevel => 0x08
  | .getHwVersion => 0x09
  | .getFwVersion => 0x0A
  | .setSetpointOffset => 0x14
  | .setPCoef => 0x15
  | .setICoef => 0x16
  | .setDCoef => 0x17
  | .setEnable => 0x18
  | .setPowerLevel => 0x1D
  | .resetBoard => 0x1E
  | .getBoardTemp => 0x1F
  | .getTecVoltage => 0x23
  | .getTecCurrent => 0x24

/-- The 21 entries of R67, in op_code order. -/
def listedOps : List ListedOp :=
  [.heartbeat, .getTemp, .getHumidity, .getDewPoint,
   .getSetpointOffset, .getPCoef, .getICoef, .getDCoef,
   .getPowerLevel, .getHwVersion, .getFwVersion, .setSetpointOffset,
   .setPCoef, .setICoef, .setDCoef, .setEnable,
   .setPowerLevel, .resetBoard, .getBoardTemp, .getTecVoltage,
   .getTecCurrent]

/-- The listed command whose request op_code is `x`, if R67 lists one. -/
def listedRequest (x : OpCode) : Option ListedOp := listedOps.find? fun o => opCode o == x

/-- The listed command whose response op_code is `r`, if there is one (R66, R67). -/
def listedResponse (r : OpCode) : Option ListedOp := listedOps.find? fun o => rspOp (opCode o) == r

/-- The REQ row of a listed command (R130 to R150). -/
def requestRow : ListedOp → Payload → Half → Instr
  | .heartbeat, p, sum => .heartbeat p sum
  | .getTemp, p, sum => .getTemp p sum
  | .getHumidity, p, sum => .getHumidity p sum
  | .getDewPoint, p, sum => .getDewPoint p sum
  | .getSetpointOffset, p, sum => .getSetpointOffset p sum
  | .getPCoef, p, sum => .getPCoef p sum
  | .getICoef, p, sum => .getICoef p sum
  | .getDCoef, p, sum => .getDCoef p sum
  | .getPowerLevel, p, sum => .getPowerLevel p sum
  | .getHwVersion, p, sum => .getHwVersion p sum
  | .getFwVersion, p, sum => .getFwVersion p sum
  | .setSetpointOffset, p, sum => .setSetpointOffset p sum
  | .setPCoef, p, sum => .setPCoef p sum
  | .setICoef, p, sum => .setICoef p sum
  | .setDCoef, p, sum => .setDCoef p sum
  | .setEnable, p, sum => .setEnable p sum
  | .setPowerLevel, p, sum => .setPowerLevel p sum
  | .resetBoard, p, sum => .resetBoard p sum
  | .getBoardTemp, p, sum => .getBoardTemp p sum
  | .getTecVoltage, p, sum => .getTecVoltage p sum
  | .getTecCurrent, p, sum => .getTecCurrent p sum

/-- The RSP row of a listed command (R130 to R150). -/
def responseRow : ListedOp → Byte → Payload → Half → Instr
  | .heartbeat, m, p, sum => .heartbeatRsp m p sum
  | .getTemp, m, p, sum => .getTempRsp m p sum
  | .getHumidity, m, p, sum => .getHumidityRsp m p sum
  | .getDewPoint, m, p, sum => .getDewPointRsp m p sum
  | .getSetpointOffset, m, p, sum => .getSetpointOffsetRsp m p sum
  | .getPCoef, m, p, sum => .getPCoefRsp m p sum
  | .getICoef, m, p, sum => .getICoefRsp m p sum
  | .getDCoef, m, p, sum => .getDCoefRsp m p sum
  | .getPowerLevel, m, p, sum => .getPowerLevelRsp m p sum
  | .getHwVersion, m, p, sum => .getHwVersionRsp m p sum
  | .getFwVersion, m, p, sum => .getFwVersionRsp m p sum
  | .setSetpointOffset, m, p, sum => .setSetpointOffsetRsp m p sum
  | .setPCoef, m, p, sum => .setPCoefRsp m p sum
  | .setICoef, m, p, sum => .setICoefRsp m p sum
  | .setDCoef, m, p, sum => .setDCoefRsp m p sum
  | .setEnable, m, p, sum => .setEnableRsp m p sum
  | .setPowerLevel, m, p, sum => .setPowerLevelRsp m p sum
  | .resetBoard, m, p, sum => .resetBoardRsp m p sum
  | .getBoardTemp, m, p, sum => .getBoardTempRsp m p sum
  | .getTecVoltage, m, p, sum => .getTecVoltageRsp m p sum
  | .getTecCurrent, m, p, sum => .getTecCurrentRsp m p sum

end Sys2Proof.Machine
end

