-- ==== Sys2Proof/WellFormed.lean ====
section
/-! DEFINITION. Which terms of `Instr` are what the decoder of spec/30_encoding.md R74 can give: the
generic rows `ENCODE` and `DECODE` stand for the op_codes that no specific row of their space
matches ("a decoder takes the specific row when one matches and the generic row otherwise"). Every
other operand is a bit vector of exactly its field's width, so any value is admitted. -/

namespace Sys2Proof

/-- The checks of R74: a generic row's op_code is not a listed one of its space. -/
def WellFormed : Instr → Bool
  | .encode op _ _ => (Machine.listedRequest op).isNone
  | .decode _ op _ _ => (Machine.listedResponse op).isNone
  | .heartbeat _ _ => true
  | .getTemp _ _ => true
  | .getHumidity _ _ => true
  | .getDewPoint _ _ => true
  | .getSetpointOffset _ _ => true
  | .getPCoef _ _ => true
  | .getICoef _ _ => true
  | .getDCoef _ _ => true
  | .getPowerLevel _ _ => true
  | .getHwVersion _ _ => true
  | .getFwVersion _ _ => true
  | .setSetpointOffset _ _ => true
  | .setPCoef _ _ => true
  | .setICoef _ _ => true
  | .setDCoef _ _ => true
  | .setEnable _ _ => true
  | .setPowerLevel _ _ => true
  | .resetBoard _ _ => true
  | .getBoardTemp _ _ => true
  | .getTecVoltage _ _ => true
  | .getTecCurrent _ _ => true
  | .heartbeatRsp _ _ _ => true
  | .getTempRsp _ _ _ => true
  | .getHumidityRsp _ _ _ => true
  | .getDewPointRsp _ _ _ => true
  | .getSetpointOffsetRsp _ _ _ => true
  | .getPCoefRsp _ _ _ => true
  | .getICoefRsp _ _ _ => true
  | .getDCoefRsp _ _ _ => true
  | .getPowerLevelRsp _ _ _ => true
  | .getHwVersionRsp _ _ _ => true
  | .getFwVersionRsp _ _ _ => true
  | .setSetpointOffsetRsp _ _ _ => true
  | .setPCoefRsp _ _ _ => true
  | .setICoefRsp _ _ _ => true
  | .setDCoefRsp _ _ _ => true
  | .setEnableRsp _ _ _ => true
  | .setPowerLevelRsp _ _ _ => true
  | .resetBoardRsp _ _ _ => true
  | .getBoardTempRsp _ _ _ => true
  | .getTecVoltageRsp _ _ _ => true
  | .getTecCurrentRsp _ _ _ => true
  | .crcBit _ _ => true
  | .crcByte _ _ => true
  | .crc6 _ => true
  | .crcCheck _ => true
  | .opchk _ _ => true
  | .cschk _ => true
  | .validate _ _ => true
  | .send _ _ => true
  | .cmd _ _ => true
  | .txb => true
  | .rxb _ => true
  | .take => true
  | .abort => true
  | .clear => true
  | .rst => true

end Sys2Proof
end

