-- ==== Sys2Proof/Decode.lean ====
section
/-! DEFINITION. The decoder (spec/30_encoding.md R60 to R64, R74, R75): total on any bytes, a
rejection by name; the selection of an event by the ports; and the encoder, written from the same
tables. REQ and RSP are two decode spaces, told apart by direction of travel (R69, R74). -/

namespace Sys2Proof

/-- Why bytes are no instruction. -/
inductive Reject where
  /-- fewer bytes than the one length every frame has (R60) -/
  | short (n : Nat)
  /-- a frame of the REQ space whose marker is not 0xAA: no row matches (R61, R70) -/
  | notARequest (marker : Byte)
deriving DecidableEq, Repr

/-- Decode one frame of a decode space: the specific row when one matches, the generic row
otherwise (R74). The checksum bits are an open field of every row: they are read, not tested. -/
def decodeFrame (d : Direction) (f : Frame) : Except Reject Instr :=
  let p := Machine.framePayload f
  let sum := Machine.frameChecksum f
  match d with
  | .request =>
    if f[0] = Machine.params.marker then
      match Machine.listedRequest f[1] with
      | some o => .ok (Machine.requestRow o p sum)
      | none => .ok (.encode f[1] p sum)
    else .error (.notARequest f[0])
  | .response =>
    match Machine.listedResponse f[1] with
    | some o => .ok (Machine.responseRow o f[0] p sum)
    | none => .ok (.decode f[0] f[1] p sum)

/-- Decode the first frame of a byte sequence and give the bytes after it (R60): total on any
bytes. -/
def decodeBytes (d : Direction) : List Byte → Except Reject (Instr × List Byte)
  | b0 :: b1 :: b2 :: b3 :: b4 :: b5 :: b6 :: b7 :: rest =>
    match decodeFrame d #v[b0, b1, b2, b3, b4, b5, b6, b7] with
    | .ok i => .ok (i, rest)
    | .error r => .error r
  | bs => .error (.short bs.length)

/-- What a stimulus makes the block do in a phase: an operation, nothing, or a rejection. -/
def decode (ph : Phase) : Stimulus → Except Reject (Option Instr)
  | .frame d f =>
    match decodeFrame d f with
    | .ok i => .ok (some i)
    | .error r => .error r
  | .ports p => .ok (Machine.select ph p)
  | .line i => .ok (some i)

/-- The direction in which a frame word that comes without one is read: the specific rows of both
spaces first (R69: their op_codes do not meet), then the generic row of the request space for the
marker 0xAA, then that of the response space (log 11). -/
def directionOf (f : Frame) : Direction :=
  if f[0] = Machine.params.marker ∧ (Machine.listedRequest f[1]).isSome then .request
  else if (Machine.listedResponse f[1]).isSome then .response
  else if f[0] = Machine.params.marker then .request
  else .response

/-- The frame of an opcode-table word: bit 0 of `w` is bit 0 of frame byte 0 (R9); bits at or above
`nbits` are 0. -/
def tableFrame (nbits w : Nat) : Frame :=
  Machine.frameOfWord (BitVec.ofNat 64 (w % 2 ^ nbits))

/-- The instruction the decoder reads from an opcode-table word, its bytes laid out in wire order. -/
def decodeTableWord (nbits w : Nat) : Option Instr :=
  let f := tableFrame nbits w
  match decodeBytes (directionOf f) f.toList with
  | .ok (i, []) => some i
  | _ => none

/-- The request frame with this op_code, payload and checksum (R61). -/
def requestFrame (op : OpCode) (p : Payload) (sum : Half) : Frame :=
  Machine.frameOfFields
    { marker := Machine.params.marker, opCode := op, payload := p, checksum := sum }

/-- The response frame to the request op_code `op`, with this marker, payload and checksum (R62,
R66). -/
def responseFrame (op : OpCode) (marker : Byte) (p : Payload) (sum : Half) : Frame :=
  Machine.frameOfFields
    { marker := marker, opCode := Machine.rspOp op, payload := p, checksum := sum }

/-- The stimulus that stands for an operation: the frame of a REQ or RSP row (R61, R62), the port
values that select an EVENT row, every other input 0 (R28, R74), the line itself for a FUNC row,
which nothing outside the block selects (R74). -/
def encode : Instr → Stimulus
  | .heartbeat p sum => .frame .request (requestFrame (Machine.opCode .heartbeat) p sum)
  | .getTemp p sum => .frame .request (requestFrame (Machine.opCode .getTemp) p sum)
  | .getHumidity p sum => .frame .request (requestFrame (Machine.opCode .getHumidity) p sum)
  | .getDewPoint p sum => .frame .request (requestFrame (Machine.opCode .getDewPoint) p sum)
  | .getSetpointOffset p sum => .frame .request (requestFrame (Machine.opCode .getSetpointOffset) p sum)
  | .getPCoef p sum => .frame .request (requestFrame (Machine.opCode .getPCoef) p sum)
  | .getICoef p sum => .frame .request (requestFrame (Machine.opCode .getICoef) p sum)
  | .getDCoef p sum => .frame .request (requestFrame (Machine.opCode .getDCoef) p sum)
  | .getPowerLevel p sum => .frame .request (requestFrame (Machine.opCode .getPowerLevel) p sum)
  | .getHwVersion p sum => .frame .request (requestFrame (Machine.opCode .getHwVersion) p sum)
  | .getFwVersion p sum => .frame .request (requestFrame (Machine.opCode .getFwVersion) p sum)
  | .setSetpointOffset p sum => .frame .request (requestFrame (Machine.opCode .setSetpointOffset) p sum)
  | .setPCoef p sum => .frame .request (requestFrame (Machine.opCode .setPCoef) p sum)
  | .setICoef p sum => .frame .request (requestFrame (Machine.opCode .setICoef) p sum)
  | .setDCoef p sum => .frame .request (requestFrame (Machine.opCode .setDCoef) p sum)
  | .setEnable p sum => .frame .request (requestFrame (Machine.opCode .setEnable) p sum)
  | .setPowerLevel p sum => .frame .request (requestFrame (Machine.opCode .setPowerLevel) p sum)
  | .resetBoard p sum => .frame .request (requestFrame (Machine.opCode .resetBoard) p sum)
  | .getBoardTemp p sum => .frame .request (requestFrame (Machine.opCode .getBoardTemp) p sum)
  | .getTecVoltage p sum => .frame .request (requestFrame (Machine.opCode .getTecVoltage) p sum)
  | .getTecCurrent p sum => .frame .request (requestFrame (Machine.opCode .getTecCurrent) p sum)
  | .heartbeatRsp m p sum => .frame .response (responseFrame (Machine.opCode .heartbeat) m p sum)
  | .getTempRsp m p sum => .frame .response (responseFrame (Machine.opCode .getTemp) m p sum)
  | .getHumidityRsp m p sum => .frame .response (responseFrame (Machine.opCode .getHumidity) m p sum)
  | .getDewPointRsp m p sum => .frame .response (responseFrame (Machine.opCode .getDewPoint) m p sum)
  | .getSetpointOffsetRsp m p sum => .frame .response (responseFrame (Machine.opCode .getSetpointOffset) m p sum)
  | .getPCoefRsp m p sum => .frame .response (responseFrame (Machine.opCode .getPCoef) m p sum)
  | .getICoefRsp m p sum => .frame .response (responseFrame (Machine.opCode .getICoef) m p sum)
  | .getDCoefRsp m p sum => .frame .response (responseFrame (Machine.opCode .getDCoef) m p sum)
  | .getPowerLevelRsp m p sum => .frame .response (responseFrame (Machine.opCode .getPowerLevel) m p sum)
  | .getHwVersionRsp m p sum => .frame .response (responseFrame (Machine.opCode .getHwVersion) m p sum)
  | .getFwVersionRsp m p sum => .frame .response (responseFrame (Machine.opCode .getFwVersion) m p sum)
  | .setSetpointOffsetRsp m p sum => .frame .response (responseFrame (Machine.opCode .setSetpointOffset) m p sum)
  | .setPCoefRsp m p sum => .frame .response (responseFrame (Machine.opCode .setPCoef) m p sum)
  | .setICoefRsp m p sum => .frame .response (responseFrame (Machine.opCode .setICoef) m p sum)
  | .setDCoefRsp m p sum => .frame .response (responseFrame (Machine.opCode .setDCoef) m p sum)
  | .setEnableRsp m p sum => .frame .response (responseFrame (Machine.opCode .setEnable) m p sum)
  | .setPowerLevelRsp m p sum => .frame .response (responseFrame (Machine.opCode .setPowerLevel) m p sum)
  | .resetBoardRsp m p sum => .frame .response (responseFrame (Machine.opCode .resetBoard) m p sum)
  | .getBoardTempRsp m p sum => .frame .response (responseFrame (Machine.opCode .getBoardTemp) m p sum)
  | .getTecVoltageRsp m p sum => .frame .response (responseFrame (Machine.opCode .getTecVoltage) m p sum)
  | .getTecCurrentRsp m p sum => .frame .response (responseFrame (Machine.opCode .getTecCurrent) m p sum)
  | .encode op p sum => .frame .request (requestFrame op p sum)
  | .decode m op p sum =>
    .frame .response (Machine.frameOfFields { marker := m, opCode := op, payload := p, checksum := sum })
  | .crcBit c d => .line (.crcBit c d)
  | .crcByte c b => .line (.crcByte c b)
  | .crc6 m => .line (.crc6 m)
  | .crcCheck f => .line (.crcCheck f)
  | .opchk x r => .line (.opchk x r)
  | .cschk f => .line (.cschk f)
  | .validate x f => .line (.validate x f)
  | .send op p => .line (.send op p)
  | .cmd op p => .ports { cmdValid := true, cmdOp := op, cmdPayload := Machine.packPayload p }
  | .txb => .ports { txReady := true }
  | .rxb b => .ports { rxValid := true, rxData := b }
  | .take => .ports { rspReady := true }
  | .abort => .ports { ioAbort := true }
  | .clear => .ports { clear := true }
  | .rst => .ports { rst := true }

/-- The kind of a row: the `format` column of the opcode table (R74). -/
def formatOf : Instr → Format
  | .heartbeat _ _ => .req
  | .getTemp _ _ => .req
  | .getHumidity _ _ => .req
  | .getDewPoint _ _ => .req
  | .getSetpointOffset _ _ => .req
  | .getPCoef _ _ => .req
  | .getICoef _ _ => .req
  | .getDCoef _ _ => .req
  | .getPowerLevel _ _ => .req
  | .getHwVersion _ _ => .req
  | .getFwVersion _ _ => .req
  | .setSetpointOffset _ _ => .req
  | .setPCoef _ _ => .req
  | .setICoef _ _ => .req
  | .setDCoef _ _ => .req
  | .setEnable _ _ => .req
  | .setPowerLevel _ _ => .req
  | .resetBoard _ _ => .req
  | .getBoardTemp _ _ => .req
  | .getTecVoltage _ _ => .req
  | .getTecCurrent _ _ => .req
  | .heartbeatRsp _ _ _ => .rsp
  | .getTempRsp _ _ _ => .rsp
  | .getHumidityRsp _ _ _ => .rsp
  | .getDewPointRsp _ _ _ => .rsp
  | .getSetpointOffsetRsp _ _ _ => .rsp
  | .getPCoefRsp _ _ _ => .rsp
  | .getICoefRsp _ _ _ => .rsp
  | .getDCoefRsp _ _ _ => .rsp
  | .getPowerLevelRsp _ _ _ => .rsp
  | .getHwVersionRsp _ _ _ => .rsp
  | .getFwVersionRsp _ _ _ => .rsp
  | .setSetpointOffsetRsp _ _ _ => .rsp
  | .setPCoefRsp _ _ _ => .rsp
  | .setICoefRsp _ _ _ => .rsp
  | .setDCoefRsp _ _ _ => .rsp
  | .setEnableRsp _ _ _ => .rsp
  | .setPowerLevelRsp _ _ _ => .rsp
  | .resetBoardRsp _ _ _ => .rsp
  | .getBoardTempRsp _ _ _ => .rsp
  | .getTecVoltageRsp _ _ _ => .rsp
  | .getTecCurrentRsp _ _ _ => .rsp
  | .encode _ _ _ => .req
  | .decode _ _ _ _ => .rsp
  | .crcBit _ _ => .func
  | .crcByte _ _ => .func
  | .crc6 _ => .func
  | .crcCheck _ => .func
  | .opchk _ _ => .func
  | .cschk _ => .func
  | .validate _ _ => .func
  | .send _ _ => .func
  | .cmd _ _ => .event
  | .txb => .event
  | .rxb _ => .event
  | .take => .event
  | .abort => .event
  | .clear => .event
  | .rst => .event

/-- The phases in which an operation can be selected: an event's enabling condition (R12); every
phase for the events that are always enabled and for everything that is not an event. -/
def enabledIn (ph : Phase) : Instr → Bool
  | .heartbeat _ _ => true
  | .getTemp _ _ => true
  | .getHumidity _ _ => true
  | .getDewPoint _ _ => true
  | .getSetpointOffset _ _ => true
  | .getPCoef _ _ => true
  | .getICoef _ _ => true
  | .getDCoef _ _ => true
  | .getPowerLevel _ _ => true
  | .getHwVersion _ _ => true
  | .getFwVersion _ _ => true
  | .setSetpointOffset _ _ => true
  | .setPCoef _ _ => true
  | .setICoef _ _ => true
  | .setDCoef _ _ => true
  | .setEnable _ _ => true
  | .setPowerLevel _ _ => true
  | .resetBoard _ _ => true
  | .getBoardTemp _ _ => true
  | .getTecVoltage _ _ => true
  | .getTecCurrent _ _ => true
  | .heartbeatRsp _ _ _ => true
  | .getTempRsp _ _ _ => true
  | .getHumidityRsp _ _ _ => true
  | .getDewPointRsp _ _ _ => true
  | .getSetpointOffsetRsp _ _ _ => true
  | .getPCoefRsp _ _ _ => true
  | .getICoefRsp _ _ _ => true
  | .getDCoefRsp _ _ _ => true
  | .getPowerLevelRsp _ _ _ => true
  | .getHwVersionRsp _ _ _ => true
  | .getFwVersionRsp _ _ _ => true
  | .setSetpointOffsetRsp _ _ _ => true
  | .setPCoefRsp _ _ _ => true
  | .setICoefRsp _ _ _ => true
  | .setDCoefRsp _ _ _ => true
  | .setEnableRsp _ _ _ => true
  | .setPowerLevelRsp _ _ _ => true
  | .resetBoardRsp _ _ _ => true
  | .getBoardTempRsp _ _ _ => true
  | .getTecVoltageRsp _ _ _ => true
  | .getTecCurrentRsp _ _ _ => true
  | .encode _ _ _ => true
  | .decode _ _ _ _ => true
  | .crcBit _ _ => true
  | .crcByte _ _ => true
  | .crc6 _ => true
  | .crcCheck _ => true
  | .opchk _ _ => true
  | .cschk _ => true
  | .validate _ _ => true
  | .send _ _ => true
  | .cmd _ _ => ph = .idle
  | .txb => ph = .tx
  | .rxb _ => ph = .rx
  | .take => ph = .done
  | .abort => true
  | .clear => true
  | .rst => true

end Sys2Proof
end

