-- ==== Sys2Proof/Machine/Crc.lean ====
section
/-! DEFINITION. The checksum compute-and-check unit (spec/40_crc_unit.md R80 to R84) and `Encode`
(spec/41_frame_serializer.md R90), the pure functions of the function level. -/

namespace Sys2Proof.Machine

/-- `CRC.BIT(c, d)`: shift one message bit into the register (R81). -/
def crcBit (c : Half) (d : Bool) : Half :=
  let fb := c.msb ^^ d
  let c' := c <<< 1
  if fb then c' ^^^ BitVec.ofNat _ params.crcPoly else c'

/-- `CRC.BYTE(c, b)`: eight `CRC.BIT` steps, most significant bit of `b` first (R82, form 1). -/
def crcByte (c : Half) (b : Byte) : Half :=
  [7, 6, 5, 4, 3, 2, 1, 0].foldl (fun c i => crcBit c (b.getLsbD i)) c

/-- One step of the second form of `CRC.BYTE`: a conditional shift (R82, form 2). -/
def crcShift (c : Half) : Half :=
  if c.msb then (c <<< 1) ^^^ BitVec.ofNat _ params.crcPoly else c <<< 1

/-- The second form of `CRC.BYTE`: the byte into the top of the register, then eight conditional
shifts (R82, form 2). -/
def crcByteShifted (c : Half) (b : Byte) : Half :=
  crcShift (crcShift (crcShift (crcShift (crcShift (crcShift (crcShift (crcShift
    (c ^^^ halfOfBytes b 0))))))))

/-- `Crc16` of a message of any length (R83), with the reflection and final XOR parameters of R6
(both off, zero). -/
def crc16 (m : List Byte) : Half :=
  let c := m.foldl (fun c b => crcByte c (if params.crcRefin then b.reverse else b))
    (BitVec.ofNat _ params.crcInit)
  (if params.crcRefout then c.reverse else c) ^^^ BitVec.ofNat _ params.crcXorout

/-- `CRC6(m)`, the function `Crc16` on the six bytes of a CRC message (R83). -/
def crc6 (m : Message) : Half := crc16 m.toList

/-- `CRC.CHECK(F)`: recompute the checksum over bytes 0 to 5 and compare all 16 bits with the stored
one (R84). -/
def crcCheck (f : Frame) : Bool := crc6 (frameMessage f) == frameChecksum f

/-- `Encode(op, p)`: build the request frame (R90). -/
def encodeFrame (op : OpCode) (p : Payload) : Frame :=
  frameOfFields { marker := params.marker, opCode := op, payload := p
                  checksum := crc6 (requestMessage op p) }

end Sys2Proof.Machine
end

