-- ==== Sys2Proof/Machine/Flags.lean ====
section
/-! DEFINITION. The block's only status flags are the four values of `RESULT` (spec/10_state.md
R33): their codes (spec/60_exceptions.md R160) and how a complete response is judged
(spec/43_validator_and_exchange.md R110 to R112). -/

namespace Sys2Proof.Machine

/-- The numeric code of an outcome on `rsp_status` (R160, D9). -/
def resultCode : Result → BitVec 2
  | .ok               => 0
  | .protocolMismatch => 1
  | .checksumError    => 2
  | .ioError          => 3

/-- The outcome of a code (R160): the inverse of `resultCode`. -/
def resultOfCode (c : BitVec 2) : Result :=
  if c = 0 then .ok else if c = 1 then .protocolMismatch else if c = 2 then .checksumError
  else .ioError

/-- `OPCHK(x, r)`: the op_code echo check on all 8 bits (R110). -/
def opchk (x r : OpCode) : Bool := r == rspOp x

/-- `CSCHK(F)`: the checksum check of a response; it uses no request state (R111). -/
def cschk (f : Frame) : Bool := crcCheck f

/-- `Validate(x, F)`: the op_code check first, then the checksum check (R112). -/
def validate (x : OpCode) (f : Frame) : Result :=
  if opchk x f[1] = false then .protocolMismatch
  else if cschk f = false then .checksumError
  else .ok

end Sys2Proof.Machine
end

