-- ==== Sys2Proof/Machine/State.lean ====
section
/-! DEFINITION. The state: the seven items of spec/10_state.md R20, which are the whole state of the
block, and beside them the model's own fields (the environment's choices, the record of what the
ports did, the numbering of the free values). Its reset value, its faults and refusals. -/

namespace Sys2Proof.Machine

/-- What the host receives at `TAKE`: the status and the four fields (R118). -/
structure HostResult where
  status : Result
  fields : Fields
deriving DecidableEq, Repr

/-- The value of a function-level operation run on its own (log 7). -/
inductive Answer where
  | none
  /-- `CRC.CHECK`, `OPCHK`, `CSCHK` -/
  | bit (b : Bool)
  /-- `CRC.BIT`, `CRC.BYTE`, `CRC6` -/
  | word (w : Half)
  /-- `ENCODE` -/
  | frame (f : Frame)
  /-- `DECODE` -/
  | fields (d : Fields)
  /-- `VALIDATE` -/
  | verdict (r : Result)
deriving DecidableEq, Repr

/-- The block (first seven fields, R20) and the model's own fields. -/
structure State where
  /-- `PHASE` (R21) -/
  phase   : Phase
  /-- `REQ_OP` (R22) -/
  reqOp   : OpCode
  /-- `TXBUF[0..7]` (R23) -/
  txbuf   : Frame
  /-- `TX_CNT`, 0 to 8 (R24) -/
  txCnt   : Nat
  /-- `RXBUF[0..7]` (R25); in RX the bytes from `RX_CNT` on are old ones (U6; log 24) -/
  rxbuf   : Frame
  /-- `RX_CNT`, 0 to 8 (R26) -/
  rxCnt   : Nat
  /-- `RESULT` (R27) -/
  result  : Result
  /-- the model's: a host call of `SEND` is in progress (R119; log 8) -/
  inSend  : Bool
  /-- the model's: what the environment does next, head first (R12, R13; log 1) -/
  script  : List Stimulus
  /-- the model's: the bytes emitted on `tx_data`, oldest first (R92; log 19) -/
  emitted : List Byte
  /-- the model's: the bytes stored by `RXB` events, oldest first (R100; log 19) -/
  heard   : List Byte
  /-- the model's: the results the host has taken, oldest first (R118; log 19) -/
  taken   : List HostResult
  /-- the model's: the value of the last function-level operation (log 7) -/
  answer  : Answer
  /-- the model's: numbers the free values (log 3, log 4) -/
  draws   : Nat
deriving DecidableEq, Repr

/-- Why the machine stops with a fault. -/
inductive Fault where
  /-- A `TXB` in phase TX with `TX_CNT` 8 or more. Offsets outside 0 to 7 cannot be formed (R40); no
  run from reset gets here. Safe: the model stops where the spec gives no behaviour (log 13). -/
  | txOffset (n : Nat)
  /-- An `RXB` in phase RX with `RX_CNT` 8 or more, as for `txOffset`. Safe (log 13). -/
  | rxOffset (n : Nat)
deriving DecidableEq, Repr

/-- Why the machine gives no meaning. -/
inductive Refusal where
  /-- `exec`, for an instruction without a meaning: no instruction of this model. Safe. -/
  | notModelled (mnemonic : String)
  /-- `step`, for a frame offered in the request direction whose marker is not 0xAA: no row of the
  REQ space matches it and no operation can send it (R61, R70). Safe (log 14). -/
  | notARequest (marker : Byte)
  /-- `step`, for a byte sequence that is not a whole frame; a `Frame` always is one. Safe. -/
  | shortFrame (n : Nat)
deriving DecidableEq, Repr

/-- The machine right after reset (R37): IDLE with both counters 0. The values of `REQ_OP`, `TXBUF`,
`RXBUF` and `RESULT`, which R37 leaves unspecified, are a DESIGN CHOICE, unsafe (log 2). -/
def State.reset : State where
  phase   := .idle
  reqOp   := 0
  txbuf   := #v[0, 0, 0, 0, 0, 0, 0, 0]
  txCnt   := 0
  rxbuf   := #v[0, 0, 0, 0, 0, 0, 0, 0]
  rxCnt   := 0
  result  := .ok
  inSend  := false
  script  := []
  emitted := []
  heard   := []
  taken   := []
  answer  := .none
  draws   := 0

end Sys2Proof.Machine
end

