-- ==== Sys2Proof/Machine/Ports.lean ====
section
/-! DEFINITION. The output ports as functions of the state (spec/10_state.md R28, R29, R34), a free
value wherever the spec calls an output unspecified, and the result record the host receives
(spec/43_validator_and_exchange.md R118). -/

namespace Sys2Proof.Machine

/-- The block's output ports (R28). -/
structure Outputs where
  cmdReady    : Bool
  txValid     : Bool
  txData      : Byte
  rxReady     : Bool
  rspValid    : Bool
  rspStatus   : BitVec 2
  rspMarker   : Byte
  rspOp       : OpCode
  rspPayload  : BitVec 32
  rspChecksum : Half
deriving DecidableEq, Repr

/-- Are the four field outputs defined: phase DONE and a result other than IO_ERROR (R29)? -/
def fieldsValid (s : State) : Bool := s.phase = .done && s.result ≠ .ioError

/-- The free values of the four field outputs (R29, U3, U4; log 4). -/
def freeFields (n : Nat) : Fields where
  marker   := Config.freeRspMarker n
  opCode   := Config.freeRspOp n
  payload  := unpackPayload (Config.freeRspPayload n)
  checksum := Config.freeRspChecksum n

/-- What the four field outputs show: `Decode(RXBUF)` while they are valid (R29). -/
def shownFields (s : State) : Fields :=
  if fieldsValid s then decodeFields s.rxbuf else freeFields s.draws

/-- The output ports (R28, R29). -/
def outputs (s : State) : Outputs where
  cmdReady    := s.phase = .idle
  txValid     := s.phase = .tx
  txData      := if s.phase = .tx then s.txbuf[s.txCnt]?.getD (Config.freeTxData s.draws)
                 else Config.freeTxData s.draws
  rxReady     := s.phase = .rx
  rspValid    := s.phase = .done
  rspStatus   := if s.phase = .done then resultCode s.result else Config.freeRspStatus s.draws
  rspMarker   := (shownFields s).marker
  rspOp       := (shownFields s).opCode
  rspPayload  := packPayload (shownFields s).payload
  rspChecksum := (shownFields s).checksum

/-- The record the host receives when it takes the result in phase DONE (R118). -/
def hostResult (s : State) : HostResult where
  status := s.result
  fields := shownFields s

end Sys2Proof.Machine
end

