-- ==== Sys2Proof/Machine/Ops.lean ====
section
/-! DEFINITION. The named operations the meanings are written over: one-byte access to a frame
buffer (spec/20_memory.md R40), the phase changes of an exchange, ending an exchange and returning
from one (spec/60_exceptions.md R166 to R168), which is what this block has for taking an exception
and returning from it, and the state after `RST` and `CLEAR`. -/

namespace Sys2Proof.Machine

/-- The answer of a meaning. -/
abbrev Answered := Host.Outcome State Fault Refusal

/-- `MemRead(buf, i, 1)` (R10, R40): no byte at an offset of 8 or more. -/
def readByte (buf : Frame) (i : Nat) : Option Byte := buf[i]?

/-- `MemWrite(buf, i, 1, v)` (R10, R40): no buffer for an offset of 8 or more. -/
def writeByte (buf : Frame) (i : Nat) (v : Byte) : Option Frame :=
  if h : i < params.frameLen then some (buf.set i v (Nat.lt_of_lt_of_eq h rfl)) else none

/-- ENDING AN EXCHANGE, with an error or with success: `RESULT <- r` and `PHASE <- DONE`; nothing is
saved, nothing else changes (R166, R167). -/
def endExchange (r : Result) (s : State) : State := { s with result := r, phase := .done }

/-- RETURNING: `TAKE` takes the block back to IDLE after any outcome, the host receives the record,
and a call of `SEND` in progress returns (R117, R118, R168). -/
def returnToIdle (s : State) : State :=
  { s with phase := .idle, inSend := false, taken := s.taken ++ [hostResult s] }

/-- The state after `RST` and after `CLEAR` (R37, R172, R185): IDLE, counters 0, the four data
registers free values; an exchange in progress is abandoned without a result, and with it a call of
`SEND`. -/
def release (s : State) : State :=
  { s with
    phase  := .idle
    txCnt  := 0
    rxCnt  := 0
    reqOp  := Config.freeReqOp s.draws
    txbuf  := frameOfWord (Config.freeTxWord s.draws)
    rxbuf  := frameOfWord (Config.freeRxWord s.draws)
    result := resultOfCode (Config.freeResultCode s.draws)
    inSend := false }

/-- What an accepted command writes (R91). -/
def accept (op : OpCode) (p : Payload) (s : State) : State :=
  { s with txbuf := encodeFrame op p, reqOp := op, txCnt := 0, phase := .tx }

/-- After byte `n` of the request has been taken: it is emitted, the count is `n + 1`, and the
eighth byte starts the reception (R92). DESIGN CHOICE (log 24): what the bytes of `RXBUF` hold when
the reception starts is left open (R25, U6); the model leaves there what they held before. -/
def advanceTx (n : Nat) (b : Byte) (s : State) : State :=
  let t := { s with emitted := s.emitted ++ [b], txCnt := n + 1 }
  if n + 1 = params.frameLen then { t with rxCnt := 0, phase := .rx } else t

/-- After `b`, byte `n` of the response, has been stored, giving `buf`: the count is `n + 1`, and the
eighth byte ends the exchange with the verdict on the whole frame, in the same step (R46, R100).
The bytes of `buf` above `n` are those of before, for the spec any value (U6; log 24). -/
def advanceRx (n : Nat) (b : Byte) (buf : Frame) (s : State) : State :=
  let t := { s with rxbuf := buf, heard := s.heard ++ [b], rxCnt := n + 1 }
  if n + 1 = params.frameLen then endExchange (validate t.reqOp buf) t else t

/-- Show the value of a function-level operation; the block does not change (R11, R74; log 7). -/
def giveAnswer (a : Answer) (s : State) : State := { s with answer := a }

/-- `CMD(op, p)`: accepted in IDLE; in any other phase it does not fire and nothing changes (R91,
U12; log 6). -/
def issueCommand (op : OpCode) (p : Payload) (s : State) : Answered :=
  match s.phase with
  | .idle => .next (accept op p s)
  | .tx | .rx | .done => .next s

/-- `TXB`: in TX the byte at `TX_CNT` is emitted; in any other phase it does not fire (R92, U13;
log 6). -/
def transmitByte (s : State) : Answered :=
  match s.phase with
  | .tx =>
    match readByte s.txbuf s.txCnt with
    | some b => .next (advanceTx s.txCnt b s)
    | none => .fault (.txOffset s.txCnt)
  | .idle | .rx | .done => .next s

/-- `RXB(b)`: in RX the byte is stored at `RX_CNT`; in any other phase it does not fire (R100, U13;
log 6). -/
def receiveByte (b : Byte) (s : State) : Answered :=
  match s.phase with
  | .rx =>
    match writeByte s.rxbuf s.rxCnt b with
    | some buf => .next (advanceRx s.rxCnt b buf s)
    | none => .fault (.rxOffset s.rxCnt)
  | .idle | .tx | .done => .next s

/-- `SEND(op, p)`: the host issues the command and stays in the call until the exchange's `TAKE`, or
until `CLEAR` or `RST` abandons it (R119; log 8). Its other events are the environment's, one a step
(R12, R46); in a phase other than IDLE the command does not fire and no call begins. -/
def sendCommand (op : OpCode) (p : Payload) (s : State) : Answered :=
  match s.phase with
  | .idle => .next { accept op p s with inSend := true }
  | .tx | .rx | .done => .next s

/-- `RXB` lines for a list of bytes (R72). -/
def rxbLines (bs : List Byte) : List Stimulus := bs.map fun b => .line (.rxb b)

/-- RECV of a frame: the eight `RXB` events that bring its bytes in order (R72, R119). The first
fires now; the other seven are put before whatever else the environment does (log 10). -/
def receiveFrame (f : Frame) (s : State) : Answered :=
  receiveByte f[0]
    { s with script := rxbLines [f[1], f[2], f[3], f[4], f[5], f[6], f[7]] ++ s.script }

end Sys2Proof.Machine
end

