-- ==== Sys2Proof/Machine/Events.lean ====
section
/-! DEFINITION. The meanings of the seven events (spec/41_frame_serializer.md R91, R92,
spec/42_frame_deserializer.md R100, spec/43_validator_and_exchange.md R117,
spec/60_exceptions.md R171, R172, spec/70_reset_and_hazards.md R185) and of the composite `SEND`
(R119). -/

namespace Sys2Proof.Machine

/-- `CMD(op, p)` (R91). -/
def execCmd (op : Byte) (p : Payload) (s : State) : Answered := issueCommand op p s

/-- `TXB` (R92). -/
def execTxb (s : State) : Answered := transmitByte s

/-- `RXB(b)` (R100). -/
def execRxb (b : Byte) (s : State) : Answered := receiveByte b s

/-- `TAKE` (R117): in DONE; in any other phase it does not fire (U13; log 6). -/
def execTake (s : State) : Answered :=
  match s.phase with
  | .done => .next (returnToIdle s)
  | .idle | .tx | .rx => .next s

/-- `ABORT` (R171): IO_ERROR in TX and RX, ignored in IDLE and DONE. -/
def execAbort (s : State) : Answered :=
  match s.phase with
  | .tx | .rx => .next (endExchange .ioError s)
  | .idle | .done => .next s

/-- `CLEAR` (R172), in every phase. -/
def execClear (s : State) : Answered := .next (release s)

/-- `RST` (R185), in every phase. -/
def execRst (s : State) : Answered := .next (release s)

/-- `SEND(op, p)` (R119). -/
def execSend (op : Byte) (p : Payload) (s : State) : Answered := sendCommand op p s

end Sys2Proof.Machine
end

