-- ==== Sys2Proof/Machine/Functions.lean ====
section
/-! DEFINITION. The meanings of the function-level rows: `ENCODE`, `DECODE` and the seven pure
functions. Each is total, reads no state of the block and writes none (spec/30_encoding.md R74); its
value is shown in `answer` (log 7). -/

namespace Sys2Proof.Machine

/-- `ENCODE` (R90). The row's checksum bits are the result's, not an operand (log 9). -/
def execEncode (op : Byte) (p : Payload) (s : State) : Answered :=
  .next (giveAnswer (.frame (encodeFrame op p)) s)

/-- `DECODE` (R101) of the frame with these fields. -/
def execDecode (marker op : Byte) (p : Payload) (sum : Half) (s : State) : Answered :=
  .next (giveAnswer (.fields (decodeFields
    (frameOfFields { marker := marker, opCode := op, payload := p, checksum := sum }))) s)

/-- `CRC.BIT` (R81). -/
def execCrcBit (c : Half) (d : Bool) (s : State) : Answered :=
  .next (giveAnswer (.word (crcBit c d)) s)

/-- `CRC.BYTE` (R82). -/
def execCrcByte (c : Half) (b : Byte) (s : State) : Answered :=
  .next (giveAnswer (.word (crcByte c b)) s)

/-- `CRC6` (R83). -/
def execCrc6 (m : Message) (s : State) : Answered :=
  .next (giveAnswer (.word (crc6 m)) s)

/-- `CRC.CHECK` (R84). -/
def execCrcCheck (f : Frame) (s : State) : Answered :=
  .next (giveAnswer (.bit (crcCheck f)) s)

/-- `OPCHK` (R110). -/
def execOpchk (x r : Byte) (s : State) : Answered :=
  .next (giveAnswer (.bit (opchk x r)) s)

/-- `CSCHK` (R111). -/
def execCschk (f : Frame) (s : State) : Answered :=
  .next (giveAnswer (.bit (cschk f)) s)

/-- `VALIDATE` (R112). -/
def execValidate (x : Byte) (f : Frame) (s : State) : Answered :=
  .next (giveAnswer (.verdict (validate x f)) s)

end Sys2Proof.Machine
end

