-- ==== Sys2Proof/Machine/Requests.lean ====
section
/-! DEFINITION. The meanings of the 21 REQ rows (spec/44_command_opcodes.md R130 to R150): each is
`SEND` of its op_code with the row's payload, for "the block is blind to the op_code". The checksum
bits of the word are no operand of `SEND`: the block computes the checksum it sends (log 9). -/

namespace Sys2Proof.Machine

/-- `HEARTBEAT` (R130): `SEND 0x00, p`. -/
def execHeartbeat (p : Payload) (s : State) : Answered := sendCommand (opCode .heartbeat) p s

/-- `GET_TEMP` (R131): `SEND 0x01, p`. -/
def execGetTemp (p : Payload) (s : State) : Answered := sendCommand (opCode .getTemp) p s

/-- `GET_HUMIDITY` (R132): `SEND 0x02, p`. -/
def execGetHumidity (p : Payload) (s : State) : Answered := sendCommand (opCode .getHumidity) p s

/-- `GET_DEW_POINT` (R133): `SEND 0x03, p`. -/
def execGetDewPoint (p : Payload) (s : State) : Answered := sendCommand (opCode .getDewPoint) p s

/-- `GET_SETPOINT_OFFSET` (R134): `SEND 0x04, p`. -/
def execGetSetpointOffset (p : Payload) (s : State) : Answered := sendCommand (opCode .getSetpointOffset) p s

/-- `GET_P_COEF` (R135): `SEND 0x05, p`. -/
def execGetPCoef (p : Payload) (s : State) : Answered := sendCommand (opCode .getPCoef) p s

/-- `GET_I_COEF` (R136): `SEND 0x06, p`. -/
def execGetICoef (p : Payload) (s : State) : Answered := sendCommand (opCode .getICoef) p s

/-- `GET_D_COEF` (R137): `SEND 0x07, p`. -/
def execGetDCoef (p : Payload) (s : State) : Answered := sendCommand (opCode .getDCoef) p s

/-- `GET_POWER_LEVEL` (R138): `SEND 0x08, p`. -/
def execGetPowerLevel (p : Payload) (s : State) : Answered := sendCommand (opCode .getPowerLevel) p s

/-- `GET_HW_VERSION` (R139): `SEND 0x09, p`. -/
def execGetHwVersion (p : Payload) (s : State) : Answered := sendCommand (opCode .getHwVersion) p s

/-- `GET_FW_VERSION` (R140): `SEND 0x0A, p`. -/
def execGetFwVersion (p : Payload) (s : State) : Answered := sendCommand (opCode .getFwVersion) p s

/-- `SET_SETPOINT_OFFSET` (R141): `SEND 0x14, p`. -/
def execSetSetpointOffset (p : Payload) (s : State) : Answered := sendCommand (opCode .setSetpointOffset) p s

/-- `SET_P_COEF` (R142): `SEND 0x15, p`. -/
def execSetPCoef (p : Payload) (s : State) : Answered := sendCommand (opCode .setPCoef) p s

/-- `SET_I_COEF` (R143): `SEND 0x16, p`. -/
def execSetICoef (p : Payload) (s : State) : Answered := sendCommand (opCode .setICoef) p s

/-- `SET_D_COEF` (R144): `SEND 0x17, p`. -/
def execSetDCoef (p : Payload) (s : State) : Answered := sendCommand (opCode .setDCoef) p s

/-- `SET_ENABLE` (R145): `SEND 0x18, p`. -/
def execSetEnable (p : Payload) (s : State) : Answered := sendCommand (opCode .setEnable) p s

/-- `SET_POWER_LEVEL` (R146): `SEND 0x1D, p`. -/
def execSetPowerLevel (p : Payload) (s : State) : Answered := sendCommand (opCode .setPowerLevel) p s

/-- `RESET_BOARD` (R147): `SEND 0x1E, p`. -/
def execResetBoard (p : Payload) (s : State) : Answered := sendCommand (opCode .resetBoard) p s

/-- `GET_BOARD_TEMP` (R148): `SEND 0x1F, p`. -/
def execGetBoardTemp (p : Payload) (s : State) : Answered := sendCommand (opCode .getBoardTemp) p s

/-- `GET_TEC_VOLTAGE` (R149): `SEND 0x23, p`. -/
def execGetTecVoltage (p : Payload) (s : State) : Answered := sendCommand (opCode .getTecVoltage) p s

/-- `GET_TEC_CURRENT` (R150): `SEND 0x24, p`. -/
def execGetTecCurrent (p : Payload) (s : State) : Answered := sendCommand (opCode .getTecCurrent) p s

end Sys2Proof.Machine
end

