-- ==== Sys2Proof/Machine/Responses.lean ====
section
/-! DEFINITION. The meanings of the 21 RSP rows (spec/44_command_opcodes.md R130 to R150): the
response frame of that op_code arrives, byte by byte, as eight `RXB` events; the eighth judges it
against `REQ_OP` whatever its op_code is (spec/43_validator_and_exchange.md R112; log 10). -/

namespace Sys2Proof.Machine

/-- `HEARTBEAT.RSP` (R130): a frame of op_code 0x7F arrives. -/
def execHeartbeatRsp (marker : Byte) (p : Payload) (sum : Half) (s : State) : Answered :=
  receiveFrame (responseFrame (opCode .heartbeat) marker p sum) s

/-- `GET_TEMP.RSP` (R131): a frame of op_code 0x80 arrives. -/
def execGetTempRsp (marker : Byte) (p : Payload) (sum : Half) (s : State) : Answered :=
  receiveFrame (responseFrame (opCode .getTemp) marker p sum) s

/-- `GET_HUMIDITY.RSP` (R132): a frame of op_code 0x81 arrives. -/
def execGetHumidityRsp (marker : Byte) (p : Payload) (sum : Half) (s : State) : Answered :=
  receiveFrame (responseFrame (opCode .getHumidity) marker p sum) s

/-- `GET_DEW_POINT.RSP` (R133): a frame of op_code 0x82 arrives. -/
def execGetDewPointRsp (marker : Byte) (p : Payload) (sum : Half) (s : State) : Answered :=
  receiveFrame (responseFrame (opCode .getDewPoint) marker p sum) s

/-- `GET_SETPOINT_OFFSET.RSP` (R134): a frame of op_code 0x83 arrives. -/
def execGetSetpointOffsetRsp (marker : Byte) (p : Payload) (sum : Half) (s : State) : Answered :=
  receiveFrame (responseFrame (opCode .getSetpointOffset) marker p sum) s

/-- `GET_P_COEF.RSP` (R135): a frame of op_code 0x84 arrives. -/
def execGetPCoefRsp (marker : Byte) (p : Payload) (sum : Half) (s : State) : Answered :=
  receiveFrame (responseFrame (opCode .getPCoef) marker p sum) s

/-- `GET_I_COEF.RSP` (R136): a frame of op_code 0x85 arrives. -/
def execGetICoefRsp (marker : Byte) (p : Payload) (sum : Half) (s : State) : Answered :=
  receiveFrame (responseFrame (opCode .getICoef) marker p sum) s

/-- `GET_D_COEF.RSP` (R137): a frame of op_code 0x86 arrives. -/
def execGetDCoefRsp (marker : Byte) (p : Payload) (sum : Half) (s : State) : Answered :=
  receiveFrame (responseFrame (opCode .getDCoef) marker p sum) s

/-- `GET_POWER_LEVEL.RSP` (R138): a frame of op_code 0x87 arrives. -/
def execGetPowerLevelRsp (marker : Byte) (p : Payload) (sum : Half) (s : State) : Answered :=
  receiveFrame (responseFrame (opCode .getPowerLevel) marker p sum) s

/-- `GET_HW_VERSION.RSP` (R139): a frame of op_code 0x88 arrives. -/
def execGetHwVersionRsp (marker : Byte) (p : Payload) (sum : Half) (s : State) : Answered :=
  receiveFrame (responseFrame (opCode .getHwVersion) marker p sum) s

/-- `GET_FW_VERSION.RSP` (R140): a frame of op_code 0x89 arrives. -/
def execGetFwVersionRsp (marker : Byte) (p : Payload) (sum : Half) (s : State) : Answered :=
  receiveFrame (responseFrame (opCode .getFwVersion) marker p sum) s

/-- `SET_SETPOINT_OFFSET.RSP` (R141): a frame of op_code 0x93 arrives. -/
def execSetSetpointOffsetRsp (marker : Byte) (p : Payload) (sum : Half) (s : State) : Answered :=
  receiveFrame (responseFrame (opCode .setSetpointOffset) marker p sum) s

/-- `SET_P_COEF.RSP` (R142): a frame of op_code 0x94 arrives. -/
def execSetPCoefRsp (marker : Byte) (p : Payload) (sum : Half) (s : State) : Answered :=
  receiveFrame (responseFrame (opCode .setPCoef) marker p sum) s

/-- `SET_I_COEF.RSP` (R143): a frame of op_code 0x95 arrives. -/
def execSetICoefRsp (marker : Byte) (p : Payload) (sum : Half) (s : State) : Answered :=
  receiveFrame (responseFrame (opCode .setICoef) marker p sum) s

/-- `SET_D_COEF.RSP` (R144): a frame of op_code 0x96 arrives. -/
def execSetDCoefRsp (marker : Byte) (p : Payload) (sum : Half) (s : State) : Answered :=
  receiveFrame (responseFrame (opCode .setDCoef) marker p sum) s

/-- `SET_ENABLE.RSP` (R145): a frame of op_code 0x97 arrives. -/
def execSetEnableRsp (marker : Byte) (p : Payload) (sum : Half) (s : State) : Answered :=
  receiveFrame (responseFrame (opCode .setEnable) marker p sum) s

/-- `SET_POWER_LEVEL.RSP` (R146): a frame of op_code 0x9C arrives. -/
def execSetPowerLevelRsp (marker : Byte) (p : Payload) (sum : Half) (s : State) : Answered :=
  receiveFrame (responseFrame (opCode .setPowerLevel) marker p sum) s

/-- `RESET_BOARD.RSP` (R147): a frame of op_code 0x9D arrives. -/
def execResetBoardRsp (marker : Byte) (p : Payload) (sum : Half) (s : State) : Answered :=
  receiveFrame (responseFrame (opCode .resetBoard) marker p sum) s

/-- `GET_BOARD_TEMP.RSP` (R148): a frame of op_code 0x9E arrives. -/
def execGetBoardTempRsp (marker : Byte) (p : Payload) (sum : Half) (s : State) : Answered :=
  receiveFrame (responseFrame (opCode .getBoardTemp) marker p sum) s

/-- `GET_TEC_VOLTAGE.RSP` (R149): a frame of op_code 0xA2 arrives. -/
def execGetTecVoltageRsp (marker : Byte) (p : Payload) (sum : Half) (s : State) : Answered :=
  receiveFrame (responseFrame (opCode .getTecVoltage) marker p sum) s

/-- `GET_TEC_CURRENT.RSP` (R150): a frame of op_code 0xA3 arrives. -/
def execGetTecCurrentRsp (marker : Byte) (p : Payload) (sum : Half) (s : State) : Answered :=
  receiveFrame (responseFrame (opCode .getTecCurrent) marker p sum) s

end Sys2Proof.Machine
end

