-- ==== Sys2Proof/Machine/Dispatch.lean ====
section
/-! DEFINITION. One arm per row of spec/opcode_table.json, each one direct call of its meaning. -/

namespace Sys2Proof.Machine

def exec (i : Instr) (s : State) : Host.Outcome State Fault Refusal :=
  match i with
  | .heartbeat p _ => Sys2Proof.Machine.execHeartbeat p s
  | .getTemp p _ => Sys2Proof.Machine.execGetTemp p s
  | .getHumidity p _ => Sys2Proof.Machine.execGetHumidity p s
  | .getDewPoint p _ => Sys2Proof.Machine.execGetDewPoint p s
  | .getSetpointOffset p _ => Sys2Proof.Machine.execGetSetpointOffset p s
  | .getPCoef p _ => Sys2Proof.Machine.execGetPCoef p s
  | .getICoef p _ => Sys2Proof.Machine.execGetICoef p s
  | .getDCoef p _ => Sys2Proof.Machine.execGetDCoef p s
  | .getPowerLevel p _ => Sys2Proof.Machine.execGetPowerLevel p s
  | .getHwVersion p _ => Sys2Proof.Machine.execGetHwVersion p s
  | .getFwVersion p _ => Sys2Proof.Machine.execGetFwVersion p s
  | .setSetpointOffset p _ => Sys2Proof.Machine.execSetSetpointOffset p s
  | .setPCoef p _ => Sys2Proof.Machine.execSetPCoef p s
  | .setICoef p _ => Sys2Proof.Machine.execSetICoef p s
  | .setDCoef p _ => Sys2Proof.Machine.execSetDCoef p s
  | .setEnable p _ => Sys2Proof.Machine.execSetEnable p s
  | .setPowerLevel p _ => Sys2Proof.Machine.execSetPowerLevel p s
  | .resetBoard p _ => Sys2Proof.Machine.execResetBoard p s
  | .getBoardTemp p _ => Sys2Proof.Machine.execGetBoardTemp p s
  | .getTecVoltage p _ => Sys2Proof.Machine.execGetTecVoltage p s
  | .getTecCurrent p _ => Sys2Proof.Machine.execGetTecCurrent p s
  | .heartbeatRsp m p sum => Sys2Proof.Machine.execHeartbeatRsp m p sum s
  | .getTempRsp m p sum => Sys2Proof.Machine.execGetTempRsp m p sum s
  | .getHumidityRsp m p sum => Sys2Proof.Machine.execGetHumidityRsp m p sum s
  | .getDewPointRsp m p sum => Sys2Proof.Machine.execGetDewPointRsp m p sum s
  | .getSetpointOffsetRsp m p sum => Sys2Proof.Machine.execGetSetpointOffsetRsp m p sum s
  | .getPCoefRsp m p sum => Sys2Proof.Machine.execGetPCoefRsp m p sum s
  | .getICoefRsp m p sum => Sys2Proof.Machine.execGetICoefRsp m p sum s
  | .getDCoefRsp m p sum => Sys2Proof.Machine.execGetDCoefRsp m p sum s
  | .getPowerLevelRsp m p sum => Sys2Proof.Machine.execGetPowerLevelRsp m p sum s
  | .getHwVersionRsp m p sum => Sys2Proof.Machine.execGetHwVersionRsp m p sum s
  | .getFwVersionRsp m p sum => Sys2Proof.Machine.execGetFwVersionRsp m p sum s
  | .setSetpointOffsetRsp m p sum => Sys2Proof.Machine.execSetSetpointOffsetRsp m p sum s
  | .setPCoefRsp m p sum => Sys2Proof.Machine.execSetPCoefRsp m p sum s
  | .setICoefRsp m p sum => Sys2Proof.Machine.execSetICoefRsp m p sum s
  | .setDCoefRsp m p sum => Sys2Proof.Machine.execSetDCoefRsp m p sum s
  | .setEnableRsp m p sum => Sys2Proof.Machine.execSetEnableRsp m p sum s
  | .setPowerLevelRsp m p sum => Sys2Proof.Machine.execSetPowerLevelRsp m p sum s
  | .resetBoardRsp m p sum => Sys2Proof.Machine.execResetBoardRsp m p sum s
  | .getBoardTempRsp m p sum => Sys2Proof.Machine.execGetBoardTempRsp m p sum s
  | .getTecVoltageRsp m p sum => Sys2Proof.Machine.execGetTecVoltageRsp m p sum s
  | .getTecCurrentRsp m p sum => Sys2Proof.Machine.execGetTecCurrentRsp m p sum s
  | .encode op p _ => Sys2Proof.Machine.execEncode op p s
  | .decode m op p sum => Sys2Proof.Machine.execDecode m op p sum s
  | .crcBit c d => Sys2Proof.Machine.execCrcBit c d s
  | .crcByte c b => Sys2Proof.Machine.execCrcByte c b s
  | .crc6 m => Sys2Proof.Machine.execCrc6 m s
  | .crcCheck f => Sys2Proof.Machine.execCrcCheck f s
  | .opchk x r => Sys2Proof.Machine.execOpchk x r s
  | .cschk f => Sys2Proof.Machine.execCschk f s
  | .validate x f => Sys2Proof.Machine.execValidate x f s
  | .send op p => Sys2Proof.Machine.execSend op p s
  | .cmd op p => Sys2Proof.Machine.execCmd op p s
  | .txb => Sys2Proof.Machine.execTxb s
  | .rxb b => Sys2Proof.Machine.execRxb b s
  | .take => Sys2Proof.Machine.execTake s
  | .abort => Sys2Proof.Machine.execAbort s
  | .clear => Sys2Proof.Machine.execClear s
  | .rst => Sys2Proof.Machine.execRst s

end Sys2Proof.Machine
end

