-- ==== Sys2Proof/Machine/Fetch.lean ====
section
/-! DEFINITION. What happens in the next step: the environment's next stimulus is read and decoded
(spec/00_scope.md R12, R13, spec/10_state.md R28), a host call of `SEND` takes its result
(spec/43_validator_and_exchange.md R119; log 8), or nothing fires and the block waits
(spec/70_reset_and_hazards.md R190). -/

namespace Sys2Proof.Machine

/-- What a fetch gives. -/
inductive Fetched where
  /-- run this operation on this state -/
  | run (i : Instr) (s : State)
  /-- nothing fires -/
  | wait (s : State)
  /-- no instruction -/
  | reject (r : Refusal)
deriving DecidableEq, Repr

/-- Number the next step's free values (log 3). -/
def tick (s : State) : State := { s with draws := s.draws + 1 }

/-- The state once the head of the script has been read. -/
def consume (rest : List Stimulus) (s : State) : State := { tick s with script := rest }

/-- The host is in `SEND` and the result is there to be taken (R119). -/
def returning (s : State) : Bool := s.inSend && s.phase = .done

/-- The refusal of a rejected decoding. -/
def refusalOf : Reject → Refusal
  | .short n => .shortFrame n
  | .notARequest m => .notARequest m

/-- Read and decode one stimulus; `rest` follows it. -/
def readStimulus (x : Stimulus) (rest : List Stimulus) (s : State) : Fetched :=
  match decode s.phase x with
  | .ok (some i) => .run i (consume rest s)
  | .ok none => .wait (consume rest s)
  | .error r => .reject (refusalOf r)

/-- The next step's operation. A host in `SEND` takes its result as soon as it is there, before
anything else in the script but a `RST` or a `CLEAR` (R119, R195; log 8). -/
def fetch (s : State) : Fetched :=
  match s.script with
  | [] => if returning s then .run .take (tick s) else .wait (tick s)
  | x :: rest =>
    if returning s && !resets x then .run .take (tick s) else readStimulus x rest s

/-- Put a frame word where the next step reads its stimulus; no call of `SEND` is in progress, so
that the next step reads it (log 1, log 11). -/
def placeFrame (f : Frame) (s : State) : State :=
  { s with script := .frame (directionOf f) f :: s.script, inSend := false }

end Sys2Proof.Machine
end

