-- ==== Sys2Proof/Machine/Step.lean ====
section
/-! DEFINITION. One step of the machine, and the host interface's placing of a frame word. -/

namespace Sys2Proof.Machine

/-- One step: at most one event fires (R12); where none does, the block waits (R190). -/
def step (s : State) : Host.Outcome State Fault Refusal :=
  match fetch s with
  | .run i t => exec i t
  | .wait t => .next t
  | .reject r => .refused r

/-- `s` with an opcode-table word where the next step reads its stimulus (log 1, log 11). -/
def State.withFetchWord (s : State) (nbits w : Nat) : State := placeFrame (tableFrame nbits w) s

end Sys2Proof.Machine
end

