-- ==== Sys2Proof/Machine/Client.lean ====
section
/-! DEFINITION. The host's programs at the boundary (spec/44_command_opcodes.md R151 to R158): the
Protocol Client operations as the commands they send. "These are the host's programs, not the
block's operations": no step of the block reads them. -/

namespace Sys2Proof.Machine

/-- A command as the host gives it: a listed op_code and four payload bytes. -/
structure Command where
  op      : ListedOp
  payload : Payload
deriving DecidableEq, Repr

/-- `[00 00 00 00]`, the payload of every command without an argument (R151, D27). -/
def zeroPayload : Payload := #v[0, 0, 0, 0]

/-- The REQ row of a command, with the checksum the block will compute (R61). -/
def commandRow (c : Command) : Instr :=
  requestRow c.op c.payload (crc6 (requestMessage (opCode c.op) c.payload))

/-- A typed getter: one read with a zeroed payload (R151). -/
def getterCommands (op : ListedOp) : List Command := [⟨op, zeroPayload⟩]

/-- `heartbeat()` (R154). -/
def heartbeatCommands : List Command := [⟨.heartbeat, zeroPayload⟩]

/-- `BOARD_INIT`, bit 0 of the status payload (R130, R153). -/
def boardInitialised (r : HostResult) : Bool := r.fields.payload[0].getLsbD 0

/-- What `open` sends after the answer to its heartbeat: `RESET_BOARD` if the exchange is OK and the
board is not initialised; nothing otherwise (R153). -/
def openFollowUp (r : HostResult) : List Command :=
  if r.status = .ok ∧ boardInitialised r = false then [⟨.resetBoard, zeroPayload⟩] else []

/-- `monitor()`: seven reads, in the order of the record's fields (R155, D28). -/
def monitorCommands : List Command :=
  [.getTemp, .getBoardTemp, .getHumidity, .getDewPoint, .getTecVoltage, .getTecCurrent,
   .getPowerLevel].map fun op => ⟨op, zeroPayload⟩

/-- `enable(p, i, d, max_power, setpoint)`: six writes, the arming command last (R156). -/
def enableCommands (p i d maxPower setpoint : Payload) : List Command :=
  [⟨.setPowerLevel, maxPower⟩, ⟨.setSetpointOffset, setpoint⟩, ⟨.setPCoef, p⟩, ⟨.setICoef, i⟩,
   ⟨.setDCoef, d⟩, ⟨.setEnable, #v[0, 0, 0, 0]⟩]

/-- `disable()`: one `SET_ENABLE` with `[1, 0, 0, 0]` (R157). -/
def disableCommands : List Command := [⟨.setEnable, #v[1, 0, 0, 0]⟩]

/-- `reset_connection()` at the block: one `CLEAR` and no exchange (R158). -/
def resetConnectionRow : Instr := .clear

/-- How an exchange finished (R197): with its result taken, or abandoned without one. -/
inductive ExchangeEnd where
  /-- `TAKE` fired for it and the host has this result -/
  | taken (r : HostResult)
  /-- `CLEAR` or `RST` abandoned it -/
  | abandoned
deriving DecidableEq, Repr

/-- Is the block quiescent (R197)? A state in TX, RX or DONE is never final. -/
def quiescent (s : State) : Bool := s.phase = .idle

/-- How the exchange in progress in `s` finished in the change from `s` to `t`, if it did (R197). -/
def exchangeEnd (s t : State) : Option ExchangeEnd :=
  if quiescent s = false ∧ quiescent t = true then
    match t.taken.drop s.taken.length with
    | r :: _ => some (.taken r)
    | [] => some .abandoned
  else none

/-- Did the exchange end with a result, and that result OK? -/
def endedOk : ExchangeEnd → Bool
  | .taken r => r.status = .ok
  | .abandoned => false

/-- The commands of a sequence that are issued when its exchanges end so, in order: the first that
does not end OK is the last issued (R155, R156, R197). That an abandoned exchange, which has no
status, is such an end is a DESIGN CHOICE (log 25). -/
def issued : List Command → List ExchangeEnd → List Command
  | [], _ => []
  | c :: _, [] => [c]
  | c :: cs, e :: es => c :: (if endedOk e then issued cs es else [])

/-- How a client operation stands. -/
inductive ClientOutcome where
  /-- the last exchange issued has not finished -/
  | waiting
  /-- every command's exchange was OK -/
  | finished
  /-- the operation failed with the error of this exchange, the first that was not OK -/
  | failed (error : Result)
  /-- the operation's last exchange was abandoned by `CLEAR` or `RST`: no result and no error -/
  | abandoned
deriving DecidableEq, Repr

/-- How an operation stands after an exchange that did not end OK: it failed with the error taken, or
was abandoned with the exchange. -/
def stopOutcome : ExchangeEnd → ClientOutcome
  | .taken r => .failed r.status
  | .abandoned => .abandoned

/-- How a sequence stands when its exchanges end so, in order (R155, R156, R197; log 25). -/
def outcomeOf : List Command → List ExchangeEnd → ClientOutcome
  | [], _ => .finished
  | _ :: _, [] => .waiting
  | _ :: cs, e :: es => if endedOk e then outcomeOf cs es else stopOutcome e

/-- Is the host program finished (R197): its last exchange finished, taken or abandoned, or the first
that is not OK taken? -/
def programFinished (o : ClientOutcome) : Bool := o ≠ .waiting

/-- The transport's configuration that `open` makes before its first exchange (R153, R175, R187). -/
def openTransport : Config.Serial := serial

/-- What `open` sends after an end of its heartbeat's exchange (R153). -/
def openFollowUpOf : ExchangeEnd → List Command
  | .taken r => openFollowUp r
  | .abandoned => []

/-- The commands of `open`, its heartbeat first and then what the end of the heartbeat's exchange asks
for (R153). -/
def openCommands (es : List ExchangeEnd) : List Command :=
  heartbeatCommands ++ (es.take 1).flatMap openFollowUpOf

/-- What `open` has issued when its exchanges end so (R153). -/
def openIssued (es : List ExchangeEnd) : List Command := issued (openCommands es) es

/-- How `open` stands when its exchanges end so: any failed exchange makes it fail with that error
(R153). -/
def openOutcome (es : List ExchangeEnd) : ClientOutcome := outcomeOf (openCommands es) es

/-- The payload of a result read as a little-endian `u32` (R151). -/
def payloadU32 (r : HostResult) : BitVec 32 := packPayload r.fields.payload

/-- The payload of a result read as a `u8` (R151). -/
def payloadU8 (r : HostResult) : Byte := r.fields.payload[0]

end Sys2Proof.Machine
end

