-- ==== Sys2Proof/Safety.lean ====
section
/-! DEFINITION. The terms in which statements speak about runs: the invariant of the exchange
(spec/10_state.md R20 to R27), the absence of the three asynchronous events
(spec/60_exceptions.md R170), and what two states share that differ only in registers nothing has
written yet (spec/10_state.md R37). -/

namespace Sys2Proof.Machine

/-- `k` steps, stopping at the first fault or refusal. -/
def run (k : Nat) (s : State) : Host.Outcome State Fault Refusal := Host.Core.run core k s

/-- The counts stay within the frame and the phase says where the exchange stands (R21, R24, R26). -/
def CountsMatchPhase (s : State) : Prop :=
  s.txCnt ≤ 8 ∧ s.rxCnt ≤ 8 ∧
  (s.phase = .tx → s.txCnt < 8) ∧
  (s.phase = .rx → s.txCnt = 8 ∧ s.rxCnt < 8)

/-- During an exchange `TXBUF` is the request frame of `REQ_OP` (R22, R23, R93). -/
def RequestIsEncoded (s : State) : Prop :=
  s.phase ≠ .idle → s.txbuf = encodeFrame s.reqOp (framePayload s.txbuf)

/-- In DONE, `RESULT` is IO_ERROR or the verdict on eight received bytes (R27, R165). -/
def ResultIsVerdict (s : State) : Prop :=
  s.phase = .done → s.result ≠ .ioError →
    s.txCnt = 8 ∧ s.rxCnt = 8 ∧ s.result = validate s.reqOp s.rxbuf

/-- The bytes sent and received so far are the first ones of the two buffers, in order (R48). -/
def BytesInOrder (s : State) : Prop :=
  s.txbuf.toList.take s.txCnt <:+ s.emitted ∧ s.rxbuf.toList.take s.rxCnt <:+ s.heard

/-- The invariant of the machine. The last clause is about the model's own `inSend`: a call of
`SEND` is in progress only during an exchange (R119). -/
def Inv (s : State) : Prop :=
  CountsMatchPhase s ∧ RequestIsEncoded s ∧ ResultIsVerdict s ∧ BytesInOrder s ∧
  (s.inSend = true → s.phase ≠ .idle)

/-- Is this operation none of `ABORT`, `CLEAR`, `RST`, the events asynchronous to an exchange
(R170)? -/
def orderly (i : Instr) : Bool := i ≠ .abort && i ≠ .clear && i ≠ .rst

/-- A stimulus that asserts none of `io_abort`, `clear`, `rst` (R170, R119). -/
def undisturbing : Stimulus → Bool
  | .frame _ _ => true
  | .ports p => !p.rst && !p.clear && !p.ioAbort
  | .line i => orderly i

/-- The transport's events of an exchange whose response is `r`: eight `TXB`, then the eight `RXB` of
the response (R119). -/
def exchangeLines (r : Frame) : List Stimulus :=
  List.replicate 8 (.line .txb) ++ rxbLines r.toList

/-- The two states agree on everything that has been written since the last `RST` or `CLEAR` as far
as the phase lets an exchange read it: `REQ_OP` and `TXBUF` outside IDLE, the received bytes of
`RXBUF` in RX, `RESULT` in DONE, the whole `RXBUF` in DONE unless the result is IO_ERROR (R37). -/
def AgreeWhereWritten (s t : State) : Prop :=
  (s.phase = t.phase ∧ s.txCnt = t.txCnt ∧ s.rxCnt = t.rxCnt) ∧
  (s.inSend = t.inSend ∧ s.script = t.script ∧ s.answer = t.answer ∧ s.draws = t.draws) ∧
  (s.emitted = t.emitted ∧ s.heard = t.heard ∧ s.taken = t.taken) ∧
  (s.phase ≠ .idle → s.reqOp = t.reqOp ∧ s.txbuf = t.txbuf) ∧
  (s.phase = .rx → ∀ i, i < s.rxCnt → s.rxbuf[i]? = t.rxbuf[i]?) ∧
  (s.phase = .done → s.result = t.result ∧ (s.result ≠ .ioError → s.rxbuf = t.rxbuf))

/-- The same kind of outcome, next states related by `R`, the same fault or the same refusal. -/
def SameOutcome (R : State → State → Prop) :
    Host.Outcome State Fault Refusal → Host.Outcome State Fault Refusal → Prop
  | .next s, .next t => R s t
  | .fault a, .fault b => a = b
  | .refused a, .refused b => a = b
  | _, _ => False

end Sys2Proof.Machine
end

