-- ==== Sys2Proof/Certificates/Slice0/Obligations.lean ====
section
/-! DEFINITION. The statements for the provers. A next state is written as an update of the state
before, so that each such statement is its own frame: every field it does not name is unchanged. The
fields `answer` (log 7), `inSend` (log 8), `script` (log 1), `emitted`, `heard`, `taken` (log 19) and
`draws` (log 3) are the model's own, not the spec's; what is said of them is the model's choice. -/

open Sys2Proof Sys2Proof.Machine

/-! ### The function level: checksum unit, serializer, deserializer, validator -/

/-- `CRC.BIT` (R81; the algorithm is general knowledge, log 5): the instruction completes in every
state, gives the shifted register, and changes no register. The row run
on its own is the model's choice (log 7). -/
def Obligations.CrcBitShiftsOneBit : Prop :=
  ∀ (c : Half) (d : Bool) (s : State),
    exec (.crcBit c d) s = .next { s with
      answer := .word (if c.getLsbD 15 ^^ d then (c <<< 1) ^^^ 0x1021 else c <<< 1) }

/-- `CRC.BYTE` (R82; log 5; run on its own, log 7): the bit-serial form of the instruction gives what the second form of R82
gives, for every register and byte. -/
def Obligations.CrcByteFormsAgree : Prop :=
  ∀ (c : Half) (b : Byte) (s : State),
    exec (.crcByte c b) s = .next { s with answer := .word (crcByteShifted c b) }

/-- `CRC6` (R83; log 5; run on its own, log 7): the six bytes absorbed in frame-offset order from register 0. -/
def Obligations.Crc6AbsorbsSixBytes : Prop :=
  ∀ (m : Message) (s : State),
    exec (.crc6 m) s = .next { s with
      answer := .word
        (crcByte (crcByte (crcByte (crcByte (crcByte (crcByte 0 m[0]) m[1]) m[2]) m[3]) m[4]) m[5]) }

/-- `Crc16` is linear over XOR for messages of equal length (R83; log 5). -/
def Obligations.Crc16IsLinear : Prop :=
  ∀ a b : List Byte, a.length = b.length →
    crc16 (List.zipWith (· ^^^ ·) a b) = crc16 a ^^^ crc16 b

/-- `CRC.CHECK` (R84): recompute over bytes 0 to 5 and compare with `{F[7], F[6]}`. The
row run on its own, with its bit in `answer`, is the model's choice (log 7). -/
def Obligations.CrcCheckComparesRecomputed : Prop :=
  ∀ (f : Frame) (s : State),
    exec (.crcCheck f) s = .next { s with
      answer := .bit
        (decide (crc16 [f[0], f[1], f[2], f[3], f[4], f[5]] = f[7] ++ f[6])) }

/-- The first round-trip law (R85): an encoded frame passes the checksum test.
The row run on its own, with its bit in `answer`, is the model's choice (log 7). -/
def Obligations.EncodedFramePassesCheck : Prop :=
  ∀ (op : Byte) (p : Payload) (s : State),
    crcCheck (encodeFrame op p) = true ∧
    exec (.crcCheck (encodeFrame op p)) s = .next { s with answer := .bit true }

/-- `ENCODE` (R90): the eight bytes of the request frame, for every op_code and payload, with no
register read or written. The row run on its own, with its frame in `answer` (log 7), and the
checksum bits of the word that it does not read (log 9) are the model's choices. -/
def Obligations.EncodeBuildsFrame : Prop :=
  ∀ (op : Byte) (p : Payload) (sum : Half) (s : State),
    let c := crc16 [0xAA, op, p[0], p[1], p[2], p[3]]
    exec (.encode op p sum) s = .next { s with
      answer := .frame
        #v[0xAA, op, p[0], p[1], p[2], p[3], c.extractLsb' 0 8, c.extractLsb' 8 8] }

/-- `Encode` is injective, and its image is the frames with marker 0xAA and a matching checksum
(R95). -/
def Obligations.EncodeInjectiveWithImage : Prop :=
  (∀ (op op' : Byte) (p p' : Payload), encodeFrame op p = encodeFrame op' p' → op = op' ∧ p = p') ∧
  (∀ f : Frame, (∃ op p, encodeFrame op p = f) ↔ f[0] = 0xAA ∧ crcCheck f = true)

/-- `DECODE` (R101): the four fields of any 8 bytes, nothing validated, no register changed.
The row run on its own, with its fields in `answer`, is the model's choice (log 7). -/
def Obligations.DecodeSplitsFrame : Prop :=
  (∀ f : Frame, decodeFields f =
    { marker := f[0], opCode := f[1], payload := #v[f[2], f[3], f[4], f[5]],
      checksum := f[7] ++ f[6] }) ∧
  (∀ (m op : Byte) (p : Payload) (sum : Half) (s : State),
    exec (.decode m op p sum) s = .next { s with
      answer := .fields { marker := m, opCode := op, payload := p, checksum := sum } })

/-- `Decode` is a bijection with the re-assembly of R103 as its inverse. -/
def Obligations.DecodeIsBijective : Prop :=
  (∀ f : Frame, frameOfFields (decodeFields f) = f) ∧
  (∀ d : Fields, decodeFields (frameOfFields d) = d)

/-- The second round-trip law (R104). -/
def Obligations.DecodeOfEncodedFrame : Prop :=
  ∀ (op : Byte) (p : Payload),
    decodeFields (encodeFrame op p) =
      { marker := 0xAA, opCode := op, payload := p,
        checksum := crc16 [0xAA, op, p[0], p[1], p[2], p[3]] } ∧
    crc6 (frameMessage (encodeFrame op p)) = (decodeFields (encodeFrame op p)).checksum

/-- The response op_code (R66): addition of 127 modulo 256, the same as subtracting 129, a bijection
with inverse `r + 129`, and not the setting of bit 7. -/
def Obligations.ResponseOpIsBijection : Prop :=
  (∀ x : Byte, (rspOp x).toNat = (x.toNat + 127) % 256 ∧ rspOp x = x - 129) ∧
  (∀ r x : Byte, rspOp x = r ↔ x = r + 129) ∧
  (rspOp 0x00 = 0x7F ∧ rspOp 0x01 = 0x80 ∧ rspOp 0x80 = 0xFF ∧ rspOp 0x81 = 0x00 ∧
    rspOp 0xFF = 0x7E)

/-- The op_code table (R67), complete and in order: each listed command, its request op_code and its
response op_code. -/
def Obligations.OpCodesAreR67 : Prop :=
  listedOps.map (fun o => (o, opCode o, rspOp (opCode o))) = [
    (.heartbeat, 0x00, 0x7F), (.getTemp, 0x01, 0x80), (.getHumidity, 0x02, 0x81),
    (.getDewPoint, 0x03, 0x82), (.getSetpointOffset, 0x04, 0x83), (.getPCoef, 0x05, 0x84),
    (.getICoef, 0x06, 0x85), (.getDCoef, 0x07, 0x86), (.getPowerLevel, 0x08, 0x87),
    (.getHwVersion, 0x09, 0x88), (.getFwVersion, 0x0A, 0x89), (.setSetpointOffset, 0x14, 0x93),
    (.setPCoef, 0x15, 0x94), (.setICoef, 0x16, 0x95), (.setDCoef, 0x17, 0x96),
    (.setEnable, 0x18, 0x97), (.setPowerLevel, 0x1D, 0x9C), (.resetBoard, 0x1E, 0x9D),
    (.getBoardTemp, 0x1F, 0x9E), (.getTecVoltage, 0x23, 0xA2), (.getTecCurrent, 0x24, 0xA3)] ∧
  ∀ o : ListedOp, o ∈ listedOps

/-- The checksum in the frame (R65): the low byte at offset 6, the high byte at offset 7, and on
receive `F[6] + 256 * F[7]`. -/
def Obligations.ChecksumIsLittleEndian : Prop :=
  (∀ (op : OpCode) (p : Payload),
    let f := encodeFrame op p
    let c := crc16 [f[0], f[1], f[2], f[3], f[4], f[5]]
    f[6] = c.extractLsb' 0 8 ∧ f[7] = c.extractLsb' 8 8) ∧
  (∀ f : Frame, frameChecksum f = f[7] ++ f[6] ∧
    (frameChecksum f).toNat = f[6].toNat + 256 * f[7].toNat)

/-- `OPCHK` (R110). The row run on its own, with its bit in `answer`, is the model's choice
(log 7). -/
def Obligations.OpchkComparesEcho : Prop :=
  ∀ (x r : Byte) (s : State),
    exec (.opchk x r) s = .next { s with
      answer := .bit
        (decide (r.toNat = (x.toNat + 127) % 256)) }

/-- `CSCHK` (R111): the answer is that of `CRC.CHECK`, whatever the state's request is. The
row run on its own, with its bit in `answer`, is the model's choice (log 7). -/
def Obligations.CschkUsesNoRequest : Prop :=
  ∀ (f : Frame) (s : State),
    exec (.cschk f) s = .next { s with
      answer := .bit
        (decide (crc16 [f[0], f[1], f[2], f[3], f[4], f[5]] = f[7] ++ f[6])) }

/-- `VALIDATE` (R112): the op_code test first, so that a frame failing both tests is
PROTOCOL_MISMATCH. The row run on its own, with its verdict in `answer`, is the model's choice
(log 7). -/
def Obligations.ValidateTestsOpCodeFirst : Prop :=
  ∀ (x : Byte) (f : Frame) (s : State),
    exec (.validate x f) s = .next { s with
      answer := .verdict
        (if f[1].toNat ≠ (x.toNat + 127) % 256 then .protocolMismatch
       else if crc16 [f[0], f[1], f[2], f[3], f[4], f[5]] ≠ f[7] ++ f[6] then .checksumError
       else .ok) }

/-- OK means exactly the two tests (R113), and the marker is not one of them (R116, R70): a frame
with any marker, the right op_code and a checksum over that marker passes. -/
def Obligations.ValidateIgnoresMarker : Prop :=
  (∀ (x : Byte) (f : Frame), validate x f = .ok ↔ f[1] = rspOp x ∧ crcCheck f = true) ∧
  (∀ (x m : Byte) (p : Payload), validate x (frameOfFields
    { marker := m, opCode := rspOp x, payload := p,
      checksum := crc16 [m, rspOp x, p[0], p[1], p[2], p[3]] }) = .ok)

/-- Every single-bit change of a frame that passes is caught: PROTOCOL_MISMATCH for a bit of the
op_code byte, CHECKSUM_ERROR for any other (95_test_vectors H9 for one frame; here for every
request and every passing frame). -/
def Obligations.SingleBitErrorIsCaught : Prop :=
  ∀ (x : Byte) (f : Frame) (i : Nat), i < 64 → validate x f = .ok →
    validate x (frameOfWord (frameWord f ^^^ BitVec.twoPow 64 i)) =
      if 8 ≤ i ∧ i < 16 then .protocolMismatch else .checksumError

/-! ### The events and the composite -/

/-- `CMD` (R91): accepted in IDLE; elsewhere it does not fire. -/
def Obligations.CmdStartsExchange : Prop :=
  ∀ (op : Byte) (p : Payload) (s : State),
    (s.phase = .idle → exec (.cmd op p) s = .next { s with
      txbuf := encodeFrame op p, reqOp := op, txCnt := 0, phase := .tx }) ∧
    (s.phase ≠ .idle → exec (.cmd op p) s = .next s)

/-- `TXB` (R92): the byte at `TX_CNT` is emitted; the eighth starts the reception; elsewhere it does
not fire. A count of 8 or more in TX, which no run from reset has, is the model's fault (log 13). That `RXBUF` keeps its bytes when the reception starts is the
model's choice (log 24). -/
def Obligations.TxbEmitsNextByte : Prop :=
  ∀ s : State,
    (∀ h : s.txCnt < 7, s.phase = .tx → exec .txb s = .next { s with
      emitted := s.emitted ++ [s.txbuf[s.txCnt]], txCnt := s.txCnt + 1 }) ∧
    (s.txCnt = 7 → s.phase = .tx → exec .txb s = .next { s with
      emitted := s.emitted ++ [s.txbuf[7]], txCnt := 8, rxCnt := 0, phase := .rx }) ∧
    (8 ≤ s.txCnt → s.phase = .tx → exec .txb s = .fault (.txOffset s.txCnt)) ∧
    (s.phase ≠ .tx → exec .txb s = .next s)

/-- `RXB` (R100): the byte is stored at `RX_CNT`; the eighth ends the exchange, in the same step, with
the verdict on the whole frame; elsewhere it does not fire. A count of 8 or more in RX, which no run
from reset has, is the model's fault (log 13). That the bytes of `RXBUF` above the
count keep what they held is the model's choice (log 24). -/
def Obligations.RxbStoresNextByte : Prop :=
  ∀ (b : Byte) (s : State),
    (∀ h : s.rxCnt < 7, s.phase = .rx → exec (.rxb b) s = .next { s with
      rxbuf := s.rxbuf.set s.rxCnt b, heard := s.heard ++ [b], rxCnt := s.rxCnt + 1 }) ∧
    (s.rxCnt = 7 → s.phase = .rx → exec (.rxb b) s = .next { s with
      rxbuf := s.rxbuf.set 7 b, heard := s.heard ++ [b], rxCnt := 8,
      result := validate s.reqOp (s.rxbuf.set 7 b), phase := .done }) ∧
    (8 ≤ s.rxCnt → s.phase = .rx → exec (.rxb b) s = .fault (.rxOffset s.rxCnt)) ∧
    (s.phase ≠ .rx → exec (.rxb b) s = .next s)

/-- `TAKE` (R117, R118): the host receives the status and, unless it is IO_ERROR, `Decode(RXBUF)`; the
block goes to IDLE and keeps every register. On IO_ERROR the fields are unspecified: nothing is said
of them. Elsewhere it does not fire. -/
def Obligations.TakeDeliversResult : Prop :=
  ∀ s : State,
    (s.phase = .done → ∃ d : Fields, (s.result ≠ .ioError → d = decodeFields s.rxbuf) ∧
      exec .take s = .next { s with
        phase := .idle, inSend := false,
        taken := s.taken ++ [{ status := s.result, fields := d }] }) ∧
    (s.phase ≠ .done → exec .take s = .next s)

/-- `ABORT` (R171): in TX or RX it ends the exchange with IO_ERROR and changes nothing else; in IDLE
or DONE it is ignored. That the bytes of `RXBUF` not yet received stay is the model's choice
(log 24). -/
def Obligations.AbortEndsWithIoError : Prop :=
  ∀ s : State,
    (s.phase = .tx ∨ s.phase = .rx → exec .abort s = .next { s with
      result := .ioError, phase := .done }) ∧
    (s.phase = .idle ∨ s.phase = .done → exec .abort s = .next s)

/-- `CLEAR` (R172), in every phase: IDLE, both counters 0, no result delivered, nothing sent. Of the
four registers it leaves unspecified nothing is said. -/
def Obligations.ClearAbandonsExchange : Prop :=
  ∀ s : State, ∃ (op : Byte) (tb rb : Frame) (r : Result),
    exec .clear s = .next { s with
      phase := .idle, txCnt := 0, rxCnt := 0, reqOp := op, txbuf := tb, rxbuf := rb, result := r,
      inSend := false }

/-- `RST` (R185), in every phase: IDLE, both counters 0, no result delivered. Of the four registers it
leaves unspecified nothing is said. -/
def Obligations.RstLeavesResetState : Prop :=
  ∀ s : State, ∃ (op : Byte) (tb rb : Frame) (r : Result),
    exec .rst s = .next { s with
      phase := .idle, txCnt := 0, rxCnt := 0, reqOp := op, txbuf := tb, rxbuf := rb, result := r,
      inSend := false }

/-- `SEND` (R119): its first event, with the host in the call from then on (`inSend`, the model's own
field, log 8); in a phase other than IDLE the command does not fire. Its other events are stated by
`ExchangeRunsToCompletion` and `ExchangeEndToEnd`. -/
def Obligations.SendOpensExchange : Prop :=
  ∀ (op : Byte) (p : Payload) (s : State),
    (s.phase = .idle → exec (.send op p) s = .next { s with
      txbuf := encodeFrame op p, reqOp := op, txCnt := 0, phase := .tx, inSend := true }) ∧
    (s.phase ≠ .idle → exec (.send op p) s = .next s)

/-- The 21 REQ rows (R130 to R150): each is `SEND` of its op_code, the numbers written here from R67,
whatever the checksum bits of the word (log 9); the host is in the call from then on (log 8). -/
def Obligations.RequestRowsSend : Prop :=
  ∀ (p : Payload) (sum : Half) (s : State),
  ∀ row ∈ ([
    (.heartbeat p sum, 0x00), (.getTemp p sum, 0x01), (.getHumidity p sum, 0x02),
    (.getDewPoint p sum, 0x03), (.getSetpointOffset p sum, 0x04), (.getPCoef p sum, 0x05),
    (.getICoef p sum, 0x06), (.getDCoef p sum, 0x07), (.getPowerLevel p sum, 0x08),
    (.getHwVersion p sum, 0x09), (.getFwVersion p sum, 0x0A), (.setSetpointOffset p sum, 0x14),
    (.setPCoef p sum, 0x15), (.setICoef p sum, 0x16), (.setDCoef p sum, 0x17),
    (.setEnable p sum, 0x18), (.setPowerLevel p sum, 0x1D), (.resetBoard p sum, 0x1E),
    (.getBoardTemp p sum, 0x1F), (.getTecVoltage p sum, 0x23), (.getTecCurrent p sum, 0x24)] :
      List (Instr × OpCode)),
    (s.phase = .idle → exec row.1 s = .next { s with
      txbuf := encodeFrame row.2 p, reqOp := row.2, txCnt := 0, phase := .tx, inSend := true }) ∧
    (s.phase ≠ .idle → exec row.1 s = .next s)

/-- The 21 RSP rows (R130 to R150, RECV of R72; log 10), their response op_codes written here from
R67: the first byte of the frame, its marker, is an `RXB` now and the other seven come next; a byte
that comes outside RX is not taken. That the other bytes of `RXBUF` stay is log 24. -/
def Obligations.ResponseRowsArrive : Prop :=
  ∀ (m : Byte) (p : Payload) (sum : Half) (s : State),
  ∀ row ∈ ([
    (.heartbeatRsp m p sum, 0x7F), (.getTempRsp m p sum, 0x80), (.getHumidityRsp m p sum, 0x81),
    (.getDewPointRsp m p sum, 0x82), (.getSetpointOffsetRsp m p sum, 0x83),
    (.getPCoefRsp m p sum, 0x84), (.getICoefRsp m p sum, 0x85), (.getDCoefRsp m p sum, 0x86),
    (.getPowerLevelRsp m p sum, 0x87), (.getHwVersionRsp m p sum, 0x88),
    (.getFwVersionRsp m p sum, 0x89), (.setSetpointOffsetRsp m p sum, 0x93),
    (.setPCoefRsp m p sum, 0x94), (.setICoefRsp m p sum, 0x95), (.setDCoefRsp m p sum, 0x96),
    (.setEnableRsp m p sum, 0x97), (.setPowerLevelRsp m p sum, 0x9C),
    (.resetBoardRsp m p sum, 0x9D), (.getBoardTempRsp m p sum, 0x9E),
    (.getTecVoltageRsp m p sum, 0xA2), (.getTecCurrentRsp m p sum, 0xA3)] :
      List (Instr × OpCode)),
    let lines := ([row.2, p[0], p[1], p[2], p[3], sum.extractLsb' 0 8,
      sum.extractLsb' 8 8].map fun b => Stimulus.line (.rxb b)) ++ s.script
    (∀ h : s.rxCnt < 7, s.phase = .rx → exec row.1 s = .next { s with
      rxbuf := s.rxbuf.set s.rxCnt m, heard := s.heard ++ [m], rxCnt := s.rxCnt + 1,
      script := lines }) ∧
    (s.rxCnt = 7 → s.phase = .rx → exec row.1 s = .next { s with
      rxbuf := s.rxbuf.set 7 m, heard := s.heard ++ [m], rxCnt := 8,
      result := validate s.reqOp (s.rxbuf.set 7 m), phase := .done, script := lines }) ∧
    (s.phase ≠ .rx → exec row.1 s = .next { s with script := lines })

/-- A whole response frame of a listed op_code, met at the start of the reception, fills `RXBUF` in
offset order in eight steps and ends the exchange with the verdict on it (R100, R119). -/
def Obligations.ResponseFrameIsJudged : Prop :=
  ∀ (o : ListedOp) (m : Byte) (p : Payload) (sum : Half) (rest : List Stimulus) (s : State),
    let f : Frame := #v[m, opCode o + 127, p[0], p[1], p[2], p[3], sum.extractLsb' 0 8,
      sum.extractLsb' 8 8]
    s.phase = .rx → s.rxCnt = 0 → s.script = .frame .response f :: rest →
    run 8 s = .next { s with
      rxbuf := f, heard := s.heard ++ f.toList, rxCnt := 8, result := validate s.reqOp f,
      phase := .done, script := rest, draws := s.draws + 8 }

/-! ### The machine -/

/-- A step runs the decoded operation, on the state whose script has been read on and whose draw
counter has advanced; a host in `SEND` takes a finished result first, but for a `RST` or `CLEAR`
(log 1, log 8). -/
def Obligations.StepRunsDecoded : Prop :=
  ∀ (s : State) (x : Stimulus) (rest : List Stimulus) (i : Instr),
    s.script = x :: rest →
    (s.inSend = true → s.phase = .done → resets x = true) →
    decode s.phase x = .ok (some i) →
    step s = exec i { s with script := rest, draws := s.draws + 1 }

/-- A step in which nothing fires changes no register: the block waits, for ever if need be (R190,
U13). -/
def Obligations.StepWaitsUnchanged : Prop :=
  ∀ s : State, (s.inSend = true → s.phase ≠ .done) →
    (s.script = [] → step s = .next { s with draws := s.draws + 1 }) ∧
    (∀ x rest, s.script = x :: rest → decode s.phase x = .ok none →
      step s = .next { s with script := rest, draws := s.draws + 1 })

/-- A host in `SEND` takes the result as soon as the phase is DONE (R119; the model's choice of when,
log 8). -/
def Obligations.StepReturnsFromSend : Prop :=
  ∀ s : State, s.inSend = true → s.phase = .done →
    (∀ x rest, s.script = x :: rest → resets x = false) →
    step s = exec .take { s with draws := s.draws + 1 }

/-- A step refuses exactly where a frame whose marker is not 0xAA is offered in the request direction
(R61, R70; log 14). -/
def Obligations.StepRefusesOnlyBadMarker : Prop :=
  ∀ (s : State) (r : Refusal), step s = .refused r ↔
    ∃ (f : Frame) (rest : List Stimulus), s.script = .frame .request f :: rest ∧
      f[0] ≠ 0xAA ∧ (s.inSend = true → s.phase ≠ .done) ∧ r = .notARequest f[0]

/-- An opcode-table word placed for the next step is what the next step runs (the host's interface;
log 11). -/
def Obligations.PlacedWordRunsNext : Prop :=
  ∀ (s : State) (nbits w : Nat) (i : Instr), decodeTableWord nbits w = some i →
    step (s.withFetchWord nbits w) = exec i { s with inSend := false, draws := s.draws + 1 }

/-- The machine after reset (R37): IDLE, both counters 0, and of the handshakes only `cmd_ready`. -/
def Obligations.ResetIsIdle : Prop :=
  State.reset.phase = .idle ∧ State.reset.txCnt = 0 ∧ State.reset.rxCnt = 0 ∧
  (outputs State.reset).cmdReady = true ∧ (outputs State.reset).txValid = false ∧
  (outputs State.reset).rxReady = false ∧ (outputs State.reset).rspValid = false

/-- The invariant holds after reset. -/
def Obligations.ResetSatisfiesInv : Prop := Inv State.reset

/-- Every step keeps the invariant: counts within the frame and matching the phase, `TXBUF` the
encoded request, `RESULT` the verdict, the bytes sent and received in order (R21 to R27, R48). -/
def Obligations.StepKeepsInv : Prop :=
  ∀ s t : State, Inv s → step s = .next t → Inv t

/-- From a state with the invariant no step faults: offsets outside 0 to 7 cannot be formed (R40). -/
def Obligations.NoFaultUnderInv : Prop :=
  ∀ (s : State) (r : Fault), Inv s → step s ≠ .fault r

/-- The phase changes only in the ways of R21, and only by the events R21 names; a command accepted is
the only way out of IDLE and sets the request of the exchange. -/
def Obligations.PhaseTransitionsAreR21 : Prop :=
  ∀ (i : Instr) (s t : State), exec i s = .next t → t.phase ≠ s.phase →
    (s.phase = .idle ∧ t.phase = .tx ∧ ∃ op p, t.reqOp = op ∧ t.txbuf = encodeFrame op p ∧
      (i = .cmd op p ∨ i = .send op p ∨ ∃ o sum, i = requestRow o p sum ∧ op = opCode o)) ∨
    (s.phase = .tx ∧ t.phase = .rx ∧ i = .txb ∧ s.txCnt = 7) ∨
    (s.phase = .rx ∧ t.phase = .done ∧ s.rxCnt = 7 ∧
      ((∃ b, i = .rxb b) ∨ ∃ o m p sum, i = responseRow o m p sum)) ∨
    ((s.phase = .tx ∨ s.phase = .rx) ∧ t.phase = .done ∧ i = .abort ∧ t.result = .ioError) ∨
    (s.phase = .done ∧ t.phase = .idle ∧ i = .take) ∨
    (t.phase = .idle ∧ (i = .rst ∨ i = .clear))

/-- `RESULT` is written only when an exchange ends, by the eighth response byte with the verdict or by
`ABORT` with IO_ERROR, and by `RST` and `CLEAR` (R27, R33, R37). -/
def Obligations.ResultWrittenOnlyAtEnd : Prop :=
  ∀ (i : Instr) (s t : State), exec i s = .next t → t.result ≠ s.result →
    (s.phase = .rx ∧ s.rxCnt = 7 ∧ t.phase = .done ∧ t.result = validate s.reqOp t.rxbuf) ∨
    (i = .abort ∧ t.phase = .done ∧ t.result = .ioError) ∨
    i = .rst ∨ i = .clear

/-- The request is immutable: no step of an exchange changes `TXBUF` or `REQ_OP` (R93, R50). -/
def Obligations.RequestIsImmutable : Prop :=
  ∀ s t : State, step s = .next t → s.phase ≠ .idle → t.phase ≠ .idle →
    t.txbuf = s.txbuf ∧ t.reqOp = s.reqOp

/-- One event a step (R12, R46): at most one byte leaves, or one byte is stored, or one result is
taken, and nothing already sent, received or taken is undone. -/
def Obligations.StepMovesAtMostOneItem : Prop :=
  ∀ s t : State, step s = .next t →
    (t.emitted = s.emitted ∧ t.heard = s.heard ∧ t.taken = s.taken) ∨
    (∃ b, t.emitted = s.emitted ++ [b] ∧ t.heard = s.heard ∧ t.taken = s.taken) ∨
    (∃ b, t.emitted = s.emitted ∧ t.heard = s.heard ++ [b] ∧ t.taken = s.taken) ∨
    (∃ r, t.emitted = s.emitted ∧ t.heard = s.heard ∧ t.taken = s.taken ++ [r])

/-- One whole exchange (R119): `SEND`, the eight bytes taken, the eight of the response delivered, and
the `TAKE` that returns; what every field then holds. -/
def Obligations.ExchangeRunsToCompletion : Prop :=
  ∀ (op : Byte) (p : Payload) (r : Frame) (rest : List Stimulus) (s : State),
    s.phase = .idle → s.script = .line (.send op p) :: (exchangeLines r ++ rest) →
    (∀ x rest', rest = x :: rest' → resets x = false) →
    run 18 s = .next { s with
      phase := .idle, reqOp := op, txbuf := encodeFrame op p, txCnt := 8, rxbuf := r, rxCnt := 8,
      result := validate op r, inSend := false, script := rest,
      emitted := s.emitted ++ (encodeFrame op p).toList, heard := s.heard ++ r.toList,
      taken := s.taken ++ [{ status := validate op r, fields := decodeFields r }],
      draws := s.draws + 18 }

/-- The end-to-end law (R119), whatever the interleaving and spacing: in a run of `SEND` in which
nothing asserts `ABORT`, `CLEAR` or `RST`, when the exchange is DONE and not yet taken, the bytes
emitted are exactly `Encode(op, p)`, the bytes received are exactly `RXBUF`, the status is
`Validate(op, RXBUF)`, and the next step gives the host that status and `Decode(RXBUF)`. -/
def Obligations.ExchangeEndToEnd : Prop :=
  ∀ (op : Byte) (p : Payload) (script : List Stimulus) (k : Nat) (s u : State),
    s.phase = .idle → s.script = .line (.send op p) :: script →
    (∀ x ∈ script, undisturbing x = true) →
    run (k + 1) s = .next u → u.taken = s.taken → u.phase = .done →
    u.emitted = s.emitted ++ (encodeFrame op p).toList ∧
    u.heard = s.heard ++ u.rxbuf.toList ∧
    u.result = validate op u.rxbuf ∧
    ∃ v, step u = .next v ∧ v.phase = .idle ∧
      v.taken = s.taken ++ [{ status := validate op u.rxbuf, fields := decodeFields u.rxbuf }]

/-- An exchange cut short by `ABORT` in TX or RX returns IO_ERROR from `SEND`, and no byte already
sent or received is recalled (R119, R163, R166, R171). Of the fields nothing is said. -/
def Obligations.AbortedSendReturnsIoError : Prop :=
  ∀ (rest : List Stimulus) (s : State),
    s.phase = .tx ∨ s.phase = .rx → s.inSend = true → s.script = .line .abort :: rest →
    (∀ x rest', rest = x :: rest' → resets x = false) →
    ∃ d : Fields, run 2 s = .next { s with
      result := .ioError, phase := .idle, inSend := false, script := rest,
      taken := s.taken ++ [{ status := .ioError, fields := d }], draws := s.draws + 2 }

/-- No register is read before it is written (R37): two states that agree on what an exchange has
written since the last `RST` or `CLEAR` show the same outputs and step to states that agree again;
so nothing observable depends on what a register held before. -/
def Obligations.UnwrittenRegistersAreNotRead : Prop :=
  ∀ s t : State, AgreeWhereWritten s t →
    outputs s = outputs t ∧ SameOutcome AgreeWhereWritten (step s) (step t)

/-! ### The ports -/

/-- The four handshake outputs say the phase, and exactly one of them is 1 in every state (R28,
R34). -/
def Obligations.ExactlyOneHandshake : Prop :=
  ∀ s : State,
    ((outputs s).cmdReady = true ↔ s.phase = .idle) ∧
    ((outputs s).txValid = true ↔ s.phase = .tx) ∧
    ((outputs s).rxReady = true ↔ s.phase = .rx) ∧
    ((outputs s).rspValid = true ↔ s.phase = .done) ∧
    [(outputs s).cmdReady, (outputs s).txValid, (outputs s).rxReady,
      (outputs s).rspValid].count true = 1

/-- The result outputs (R29, R160): in DONE the status shows the code of `RESULT`, and unless that is
IO_ERROR the fields show `Decode(RXBUF)`; in TX `tx_data` shows the byte at `TX_CNT`. -/
def Obligations.ValidOutputsShowRegisters : Prop :=
  ∀ s : State,
    (s.phase = .done →
      (s.result = .ok → (outputs s).rspStatus = 0) ∧
      (s.result = .protocolMismatch → (outputs s).rspStatus = 1) ∧
      (s.result = .checksumError → (outputs s).rspStatus = 2) ∧
      (s.result = .ioError → (outputs s).rspStatus = 3)) ∧
    (s.phase = .done → s.result ≠ .ioError →
      (outputs s).rspMarker = s.rxbuf[0] ∧ (outputs s).rspOp = s.rxbuf[1] ∧
      (outputs s).rspPayload = s.rxbuf[5] ++ s.rxbuf[4] ++ s.rxbuf[3] ++ s.rxbuf[2] ∧
      (outputs s).rspChecksum = s.rxbuf[7] ++ s.rxbuf[6]) ∧
    (∀ h : s.txCnt < 8, s.phase = .tx → (outputs s).txData = s.txbuf[s.txCnt])

/-- Inputs asserted together (R195): `rst` before `clear` before `io_abort` in TX or RX before the one
enabled handshake; `io_abort` in IDLE or DONE does not block the handshake. That
`io_abort` in TX or RX fires alone beside `rsp_ready` too is the model's choice (log 16). -/
def Obligations.PortPriority : Prop :=
  ∀ (ph : Phase) (p : Pins),
    (p.rst = true → select ph p = some .rst) ∧
    (p.rst = false → p.clear = true → select ph p = some .clear) ∧
    (p.rst = false → p.clear = false →
      ((ph = .tx ∨ ph = .rx) → p.ioAbort = true → select ph p = some .abort) ∧
      (ph = .idle → p.cmdValid = true →
        select ph p = some (.cmd p.cmdOp (unpackPayload p.cmdPayload))) ∧
      (ph = .tx → p.ioAbort = false → p.txReady = true → select ph p = some .txb) ∧
      (ph = .rx → p.ioAbort = false → p.rxValid = true → select ph p = some (.rxb p.rxData)) ∧
      (ph = .done → p.rspReady = true → select ph p = some .take) ∧
      (p.ioAbort = false → handshake ph p = none → select ph p = none))

/-- A command on the ports (R28, R64, R91): in IDLE, with neither `rst` nor `clear`, the step accepts
it with `payload[i]` from bits `8i+7:8i` of `cmd_payload`. -/
def Obligations.CommandFromPorts : Prop :=
  ∀ (p : Pins) (rest : List Stimulus) (s : State),
    s.script = .ports p :: rest → s.phase = .idle →
    p.rst = false → p.clear = false → p.cmdValid = true →
    step s = .next { s with
      txbuf := encodeFrame p.cmdOp #v[p.cmdPayload.extractLsb' 0 8, p.cmdPayload.extractLsb' 8 8,
        p.cmdPayload.extractLsb' 16 8, p.cmdPayload.extractLsb' 24 8],
      reqOp := p.cmdOp, txCnt := 0, phase := .tx, script := rest, draws := s.draws + 1 }

/-! ### Encoding -/

/-- Decoding what encodes an instruction gives it back, for every well-formed instruction and every
operand, in every phase that enables it (R61, R62; R74 for the specific row before the generic). That
an EVENT row is encoded as a sample of the ports with only its own input 1, and a FUNC row, to which
R74 gives no encoding, and `SEND` as a line of the script, is the model's choice (log 23). -/
def Obligations.DecodeOfEncode : Prop :=
  ∀ (i : Instr) (ph : Phase), WellFormed i = true → enabledIn ph i = true →
    decode ph (encode i) = .ok (some i)

/-- Every frame that decodes is the encoding of the one well-formed instruction it decodes to: no bit
is dropped and the specific row is preferred (R74). -/
def Obligations.EncodeOfDecode : Prop :=
  ∀ (d : Direction) (f : Frame) (i : Instr), decodeFrame d f = .ok i →
    WellFormed i = true ∧ encode i = .frame d f

/-- No op_code is refused (R68): every frame decodes in the response space, and every frame with
marker 0xAA in the request space. -/
def Obligations.EveryOpCodeDecodes : Prop :=
  ∀ f : Frame, (∃ i, decodeFrame .response f = .ok i) ∧
    (f[0] = 0xAA → ∃ i, decodeFrame .request f = .ok i)

/-- Words written out from the spec decode to their instructions: six frames of 95_test_vectors and,
as R75 gives them, the `match` value of every specific row of both spaces, every open bit 0. A word
carries no direction of travel; that each is read in the space of its row is the model's choice
(log 11). -/
def Obligations.SpecWordsDecode : Prop :=
  ∀ row ∈ ([
    (0x672A0000000000AA, .heartbeat #v[0, 0, 0, 0] 0x672A),
    (0x17E90000000118AA, .setEnable #v[1, 0, 0, 0] 0x17E9),
    (0x69E1000000017FAA, .heartbeatRsp 0xAA #v[1, 0, 0, 0] 0x69E1),
    (0x82E241C8000080AA, .getTempRsp 0xAA #v[0, 0, 0xC8, 0x41] 0x82E2),
    (0xA44AFFFFFFFFFFAA, .encode 0xFF #v[0xFF, 0xFF, 0xFF, 0xFF] 0xA44A),
    (0x0807060504030201, .decode 0x01 0x02 #v[3, 4, 5, 6] 0x0807)] ++
    [
    (0x00AA, .heartbeat #v[0, 0, 0, 0] 0), (0x01AA, .getTemp #v[0, 0, 0, 0] 0),
    (0x02AA, .getHumidity #v[0, 0, 0, 0] 0), (0x03AA, .getDewPoint #v[0, 0, 0, 0] 0),
    (0x04AA, .getSetpointOffset #v[0, 0, 0, 0] 0), (0x05AA, .getPCoef #v[0, 0, 0, 0] 0),
    (0x06AA, .getICoef #v[0, 0, 0, 0] 0), (0x07AA, .getDCoef #v[0, 0, 0, 0] 0),
    (0x08AA, .getPowerLevel #v[0, 0, 0, 0] 0), (0x09AA, .getHwVersion #v[0, 0, 0, 0] 0),
    (0x0AAA, .getFwVersion #v[0, 0, 0, 0] 0), (0x14AA, .setSetpointOffset #v[0, 0, 0, 0] 0),
    (0x15AA, .setPCoef #v[0, 0, 0, 0] 0), (0x16AA, .setICoef #v[0, 0, 0, 0] 0),
    (0x17AA, .setDCoef #v[0, 0, 0, 0] 0), (0x18AA, .setEnable #v[0, 0, 0, 0] 0),
    (0x1DAA, .setPowerLevel #v[0, 0, 0, 0] 0), (0x1EAA, .resetBoard #v[0, 0, 0, 0] 0),
    (0x1FAA, .getBoardTemp #v[0, 0, 0, 0] 0), (0x23AA, .getTecVoltage #v[0, 0, 0, 0] 0),
    (0x24AA, .getTecCurrent #v[0, 0, 0, 0] 0)] ++
    [
    (0x7F00, .heartbeatRsp 0 #v[0, 0, 0, 0] 0), (0x8000, .getTempRsp 0 #v[0, 0, 0, 0] 0),
    (0x8100, .getHumidityRsp 0 #v[0, 0, 0, 0] 0), (0x8200, .getDewPointRsp 0 #v[0, 0, 0, 0] 0),
    (0x8300, .getSetpointOffsetRsp 0 #v[0, 0, 0, 0] 0), (0x8400, .getPCoefRsp 0 #v[0, 0, 0, 0] 0),
    (0x8500, .getICoefRsp 0 #v[0, 0, 0, 0] 0), (0x8600, .getDCoefRsp 0 #v[0, 0, 0, 0] 0),
    (0x8700, .getPowerLevelRsp 0 #v[0, 0, 0, 0] 0), (0x8800, .getHwVersionRsp 0 #v[0, 0, 0, 0] 0),
    (0x8900, .getFwVersionRsp 0 #v[0, 0, 0, 0] 0),
    (0x9300, .setSetpointOffsetRsp 0 #v[0, 0, 0, 0] 0), (0x9400, .setPCoefRsp 0 #v[0, 0, 0, 0] 0),
    (0x9500, .setICoefRsp 0 #v[0, 0, 0, 0] 0), (0x9600, .setDCoefRsp 0 #v[0, 0, 0, 0] 0),
    (0x9700, .setEnableRsp 0 #v[0, 0, 0, 0] 0), (0x9C00, .setPowerLevelRsp 0 #v[0, 0, 0, 0] 0),
    (0x9D00, .resetBoardRsp 0 #v[0, 0, 0, 0] 0), (0x9E00, .getBoardTempRsp 0 #v[0, 0, 0, 0] 0),
    (0xA200, .getTecVoltageRsp 0 #v[0, 0, 0, 0] 0), (0xA300, .getTecCurrentRsp 0 #v[0, 0, 0, 0] 0)] :
      List (Nat × Instr)),
    decodeTableWord 64 row.1 = some row.2

/-! ### The client at the boundary -/

/-- A client sequence stops at the first exchange that does not end with an OK result, and not before
(R155, R156, R197): what is issued is a beginning of the sequence; when every exchange is OK it is the
commands whose exchange has ended and the next; when exchange `k` is the first that is not OK it is
the commands up to that one, and the operation fails with the error taken, or is abandoned with the
exchange. The program is finished when its exchanges are or at the first that is not OK. The sequences
are the host's programs (log 21); that an abandoned exchange ends its sequence is the model's choice
(log 25). -/
def Obligations.ClientStopsAtFirstError : Prop :=
  ∀ (cs : List Command) (es : List ExchangeEnd),
    issued cs es <+: cs ∧
    ((∀ e ∈ es, ∃ r, e = .taken r ∧ r.status = .ok) →
      (issued cs es).length = min cs.length (es.length + 1) ∧
      outcomeOf cs es = if cs.length ≤ es.length then .finished else .waiting) ∧
    (∀ (k : Nat) (e : ExchangeEnd), es[k]? = some e → (∀ r, e = .taken r → r.status ≠ .ok) →
      (∀ j e', j < k → es[j]? = some e' → ∃ r', e' = .taken r' ∧ r'.status = .ok) →
      (issued cs es).length = min cs.length (k + 1) ∧
      (k < cs.length →
        (∀ r, e = .taken r → outcomeOf cs es = .failed r.status) ∧
        (e = .abandoned → outcomeOf cs es = .abandoned))) ∧
    (programFinished (outcomeOf cs es) = true ↔
      cs.length ≤ es.length ∨ ∃ e ∈ es, ∀ r, e = .taken r → r.status ≠ .ok)

/-- `open` as a whole (R153): its heartbeat first; `RESET_BOARD` after it exactly when the heartbeat's
exchange is OK and bit 0 of its payload is 0; any failed exchange makes `open` fail with that error.
An exchange that `CLEAR` or `RST` abandoned ends it without one (R197; log 25). It is the host's
program (log 21). -/
def Obligations.OpenHeartbeatsThenResets : Prop :=
  let heartbeat : Command := ⟨.heartbeat, #v[0, 0, 0, 0]⟩
  let resetBoard : Command := ⟨.resetBoard, #v[0, 0, 0, 0]⟩
  (openIssued [] = [heartbeat] ∧ openOutcome [] = .waiting) ∧
  (∀ es : List ExchangeEnd,
    openIssued (.abandoned :: es) = [heartbeat] ∧ openOutcome (.abandoned :: es) = .abandoned) ∧
  ∀ (r : HostResult) (es : List ExchangeEnd),
    (r.status ≠ .ok →
      openIssued (.taken r :: es) = [heartbeat] ∧
      openOutcome (.taken r :: es) = .failed r.status) ∧
    (r.status = .ok → r.fields.payload[0].getLsbD 0 = true →
      openIssued (.taken r :: es) = [heartbeat] ∧ openOutcome (.taken r :: es) = .finished) ∧
    (r.status = .ok → r.fields.payload[0].getLsbD 0 = false →
      openIssued (.taken r :: es) = [heartbeat, resetBoard] ∧
      openOutcome [.taken r] = .waiting ∧
      openOutcome (.taken r :: .abandoned :: es) = .abandoned ∧
      ∀ r' : HostResult,
        openOutcome (.taken r :: .taken r' :: es) =
          if r'.status = .ok then .finished else .failed r'.status)

/-- `disable()` from any two idle states sends the same frame, `AA 18 01 00 00 00 E9 17`: no state is
read between calls (R157). -/
def Obligations.DisableFrameIsFixed : Prop :=
  ∀ c ∈ disableCommands, ∀ s : State, s.phase = .idle →
    ∃ t, exec (commandRow c) s = .next t ∧
      t.txbuf = #v[0xAA, 0x18, 0x01, 0x00, 0x00, 0x00, 0xE9, 0x17]

/-- An exchange is finished exactly when the block is IDLE again: by `TAKE`, with the result delivered,
or by `CLEAR` or `RST`, abandoned with none (R197). -/
def Obligations.ExchangeFinishesByTakeClearRst : Prop :=
  ∀ (i : Instr) (s t : State), exec i s = .next t → s.phase ≠ .idle →
    (exchangeEnd s t = none ↔ t.phase ≠ .idle) ∧
    (∀ r, exchangeEnd s t = some (.taken r) ↔
      i = .take ∧ s.phase = .done ∧ t.taken = s.taken ++ [r]) ∧
    (∀ r, exchangeEnd s t = some (.taken r) → r.status = s.result) ∧
    (exchangeEnd s t = some .abandoned ↔ i = .clear ∨ i = .rst)
end

