-- ==== Sys2Proof/Laws/Client.lean ====
section
/-! SUPPORT. How the client's sequences go on after one exchange (spec/44_command_opcodes.md R153,
R155, R156, spec/70_reset_and_hazards.md R197): one lemma per case, so that no proof unfolds the
recursion. -/

namespace Sys2Proof.Machine

@[simp] theorem quiescent_iff (s : State) : quiescent s = true ↔ s.phase = .idle := by
  simp [quiescent]

/-- An exchange ends where a phase other than IDLE gives way to IDLE. -/
theorem exchangeEnd_eq_none {s t : State} (h : s.phase = .idle ∨ t.phase ≠ .idle) :
    exchangeEnd s t = none := by
  rcases h with h | h <;> simp [exchangeEnd, quiescent, h]

/-- With one more result taken, the exchange ended with that result. -/
theorem exchangeEnd_of_taken {s t : State} {r : HostResult} (hs : s.phase ≠ .idle)
    (ht : t.phase = .idle) (h : t.taken = s.taken ++ [r]) : exchangeEnd s t = some (.taken r) := by
  simp [exchangeEnd, quiescent, hs, ht, h]

/-- With no more results taken, the exchange was abandoned. -/
theorem exchangeEnd_of_not_taken {s t : State} (hs : s.phase ≠ .idle) (ht : t.phase = .idle)
    (h : t.taken = s.taken) : exchangeEnd s t = some .abandoned := by
  simp [exchangeEnd, quiescent, hs, ht, h]

@[simp] theorem endedOk_taken (r : HostResult) :
    endedOk (.taken r) = true ↔ r.status = .ok := by
  simp [endedOk]

@[simp] theorem endedOk_abandoned : endedOk .abandoned = false := rfl

/-- An exchange ended OK exactly when an OK result was taken. -/
theorem endedOk_iff (e : ExchangeEnd) : endedOk e = true ↔ ∃ r, e = .taken r ∧ r.status = .ok := by
  cases e <;> simp

@[simp] theorem stopOutcome_taken (r : HostResult) : stopOutcome (.taken r) = .failed r.status := rfl
@[simp] theorem stopOutcome_abandoned : stopOutcome .abandoned = .abandoned := rfl

@[simp] theorem issued_no_end (c : Command) (cs : List Command) : issued (c :: cs) [] = [c] := rfl

theorem issued_after_ok {e : ExchangeEnd} (h : endedOk e = true) (c : Command) (cs : List Command)
    (es : List ExchangeEnd) : issued (c :: cs) (e :: es) = c :: issued cs es := by
  simp [issued, h]

theorem issued_after_stop {e : ExchangeEnd} (h : endedOk e = false) (c : Command)
    (cs : List Command) (es : List ExchangeEnd) : issued (c :: cs) (e :: es) = [c] := by
  simp [issued, h]

theorem outcomeOf_after_ok {e : ExchangeEnd} (h : endedOk e = true) (c : Command)
    (cs : List Command) (es : List ExchangeEnd) :
    outcomeOf (c :: cs) (e :: es) = outcomeOf cs es := by
  simp [outcomeOf, h]

theorem outcomeOf_after_stop {e : ExchangeEnd} (h : endedOk e = false) (c : Command)
    (cs : List Command) (es : List ExchangeEnd) :
    outcomeOf (c :: cs) (e :: es) = stopOutcome e := by
  simp [outcomeOf, h]

/-- An operation that has stopped is a finished program. -/
@[simp] theorem programFinished_stopOutcome (e : ExchangeEnd) :
    programFinished (stopOutcome e) = true := by
  cases e <;> simp [programFinished]

/-- A failed heartbeat asks for no further command. -/
theorem openFollowUp_of_error {r : HostResult} (h : r.status ≠ .ok) : openFollowUp r = [] := by
  simp [openFollowUp, h]

/-- An initialised board is not reset. -/
theorem openFollowUp_of_initialised {r : HostResult} (h : boardInitialised r = true) :
    openFollowUp r = [] := by
  simp [openFollowUp, h]

/-- A board that is not initialised is reset. -/
theorem openFollowUp_of_uninitialised {r : HostResult} (h : r.status = .ok)
    (hb : boardInitialised r = false) : openFollowUp r = [⟨.resetBoard, zeroPayload⟩] := by
  simp [openFollowUp, h, hb]

/-- Only the end of the heartbeat's exchange decides the commands of `open`. -/
@[simp] theorem openCommands_cons (e : ExchangeEnd) (es : List ExchangeEnd) :
    openCommands (e :: es) = ⟨.heartbeat, zeroPayload⟩ :: openFollowUpOf e := by
  simp [openCommands, heartbeatCommands]

end Sys2Proof.Machine
end

