-- ==== Sys2Proof/Laws/State.lean ====
section
/-! SUPPORT. One lemma per field per update of the state, so that no proof unfolds a record update,
and the values of the parameters. -/

namespace Sys2Proof.Machine

@[simp] theorem params_frameLen : params.frameLen = 8 := rfl
@[simp] theorem params_marker : params.marker = 0xAA := rfl
@[simp] theorem params_opWidth : params.opWidth = 8 := rfl
@[simp] theorem params_payloadLen : params.payloadLen = 4 := rfl
@[simp] theorem params_crcMsgLen : params.crcMsgLen = 6 := rfl
@[simp] theorem params_crcWidth : params.crcWidth = 16 := rfl
@[simp] theorem params_rspOffset : params.rspOffset = 127 := rfl
@[simp] theorem params_checksumOrder : params.checksumOrder = .lowFirst := rfl
@[simp] theorem params_crcPoly : params.crcPoly = 0x1021 := rfl
@[simp] theorem params_crcInit : params.crcInit = 0 := rfl
@[simp] theorem params_crcRefin : params.crcRefin = false := rfl
@[simp] theorem params_crcRefout : params.crcRefout = false := rfl
@[simp] theorem params_crcXorout : params.crcXorout = 0 := rfl

@[simp] theorem endExchange_phase (r : Result) (s : State) : (endExchange r s).phase = .done := rfl
@[simp] theorem endExchange_reqOp (r : Result) (s : State) : (endExchange r s).reqOp = s.reqOp := rfl
@[simp] theorem endExchange_txbuf (r : Result) (s : State) : (endExchange r s).txbuf = s.txbuf := rfl
@[simp] theorem endExchange_txCnt (r : Result) (s : State) : (endExchange r s).txCnt = s.txCnt := rfl
@[simp] theorem endExchange_rxbuf (r : Result) (s : State) : (endExchange r s).rxbuf = s.rxbuf := rfl
@[simp] theorem endExchange_rxCnt (r : Result) (s : State) : (endExchange r s).rxCnt = s.rxCnt := rfl
@[simp] theorem endExchange_result (r : Result) (s : State) : (endExchange r s).result = r := rfl
@[simp] theorem endExchange_inSend (r : Result) (s : State) : (endExchange r s).inSend = s.inSend := rfl
@[simp] theorem endExchange_script (r : Result) (s : State) : (endExchange r s).script = s.script := rfl
@[simp] theorem endExchange_emitted (r : Result) (s : State) : (endExchange r s).emitted = s.emitted := rfl
@[simp] theorem endExchange_heard (r : Result) (s : State) : (endExchange r s).heard = s.heard := rfl
@[simp] theorem endExchange_taken (r : Result) (s : State) : (endExchange r s).taken = s.taken := rfl
@[simp] theorem endExchange_answer (r : Result) (s : State) : (endExchange r s).answer = s.answer := rfl
@[simp] theorem endExchange_draws (r : Result) (s : State) : (endExchange r s).draws = s.draws := rfl

@[simp] theorem returnToIdle_phase (s : State) : (returnToIdle s).phase = .idle := rfl
@[simp] theorem returnToIdle_reqOp (s : State) : (returnToIdle s).reqOp = s.reqOp := rfl
@[simp] theorem returnToIdle_txbuf (s : State) : (returnToIdle s).txbuf = s.txbuf := rfl
@[simp] theorem returnToIdle_txCnt (s : State) : (returnToIdle s).txCnt = s.txCnt := rfl
@[simp] theorem returnToIdle_rxbuf (s : State) : (returnToIdle s).rxbuf = s.rxbuf := rfl
@[simp] theorem returnToIdle_rxCnt (s : State) : (returnToIdle s).rxCnt = s.rxCnt := rfl
@[simp] theorem returnToIdle_result (s : State) : (returnToIdle s).result = s.result := rfl
@[simp] theorem returnToIdle_inSend (s : State) : (returnToIdle s).inSend = false := rfl
@[simp] theorem returnToIdle_script (s : State) : (returnToIdle s).script = s.script := rfl
@[simp] theorem returnToIdle_emitted (s : State) : (returnToIdle s).emitted = s.emitted := rfl
@[simp] theorem returnToIdle_heard (s : State) : (returnToIdle s).heard = s.heard := rfl
@[simp] theorem returnToIdle_taken (s : State) : (returnToIdle s).taken = s.taken ++ [hostResult s] := rfl
@[simp] theorem returnToIdle_answer (s : State) : (returnToIdle s).answer = s.answer := rfl
@[simp] theorem returnToIdle_draws (s : State) : (returnToIdle s).draws = s.draws := rfl

@[simp] theorem release_phase (s : State) : (release s).phase = .idle := rfl
@[simp] theorem release_reqOp (s : State) : (release s).reqOp = Config.freeReqOp s.draws := rfl
@[simp] theorem release_txbuf (s : State) : (release s).txbuf = frameOfWord (Config.freeTxWord s.draws) := rfl
@[simp] theorem release_txCnt (s : State) : (release s).txCnt = 0 := rfl
@[simp] theorem release_rxbuf (s : State) : (release s).rxbuf = frameOfWord (Config.freeRxWord s.draws) := rfl
@[simp] theorem release_rxCnt (s : State) : (release s).rxCnt = 0 := rfl
@[simp] theorem release_result (s : State) : (release s).result = resultOfCode (Config.freeResultCode s.draws) := rfl
@[simp] theorem release_inSend (s : State) : (release s).inSend = false := rfl
@[simp] theorem release_script (s : State) : (release s).script = s.script := rfl
@[simp] theorem release_emitted (s : State) : (release s).emitted = s.emitted := rfl
@[simp] theorem release_heard (s : State) : (release s).heard = s.heard := rfl
@[simp] theorem release_taken (s : State) : (release s).taken = s.taken := rfl
@[simp] theorem release_answer (s : State) : (release s).answer = s.answer := rfl
@[simp] theorem release_draws (s : State) : (release s).draws = s.draws := rfl

@[simp] theorem accept_phase (op : Byte) (p : Payload) (s : State) : (accept op p s).phase = .tx := rfl
@[simp] theorem accept_reqOp (op : Byte) (p : Payload) (s : State) : (accept op p s).reqOp = op := rfl
@[simp] theorem accept_txbuf (op : Byte) (p : Payload) (s : State) : (accept op p s).txbuf = encodeFrame op p := rfl
@[simp] theorem accept_txCnt (op : Byte) (p : Payload) (s : State) : (accept op p s).txCnt = 0 := rfl
@[simp] theorem accept_rxbuf (op : Byte) (p : Payload) (s : State) : (accept op p s).rxbuf = s.rxbuf := rfl
@[simp] theorem accept_rxCnt (op : Byte) (p : Payload) (s : State) : (accept op p s).rxCnt = s.rxCnt := rfl
@[simp] theorem accept_result (op : Byte) (p : Payload) (s : State) : (accept op p s).result = s.result := rfl
@[simp] theorem accept_inSend (op : Byte) (p : Payload) (s : State) : (accept op p s).inSend = s.inSend := rfl
@[simp] theorem accept_script (op : Byte) (p : Payload) (s : State) : (accept op p s).script = s.script := rfl
@[simp] theorem accept_emitted (op : Byte) (p : Payload) (s : State) : (accept op p s).emitted = s.emitted := rfl
@[simp] theorem accept_heard (op : Byte) (p : Payload) (s : State) : (accept op p s).heard = s.heard := rfl
@[simp] theorem accept_taken (op : Byte) (p : Payload) (s : State) : (accept op p s).taken = s.taken := rfl
@[simp] theorem accept_answer (op : Byte) (p : Payload) (s : State) : (accept op p s).answer = s.answer := rfl
@[simp] theorem accept_draws (op : Byte) (p : Payload) (s : State) : (accept op p s).draws = s.draws := rfl

@[simp] theorem giveAnswer_phase (a : Answer) (s : State) : (giveAnswer a s).phase = s.phase := rfl
@[simp] theorem giveAnswer_reqOp (a : Answer) (s : State) : (giveAnswer a s).reqOp = s.reqOp := rfl
@[simp] theorem giveAnswer_txbuf (a : Answer) (s : State) : (giveAnswer a s).txbuf = s.txbuf := rfl
@[simp] theorem giveAnswer_txCnt (a : Answer) (s : State) : (giveAnswer a s).txCnt = s.txCnt := rfl
@[simp] theorem giveAnswer_rxbuf (a : Answer) (s : State) : (giveAnswer a s).rxbuf = s.rxbuf := rfl
@[simp] theorem giveAnswer_rxCnt (a : Answer) (s : State) : (giveAnswer a s).rxCnt = s.rxCnt := rfl
@[simp] theorem giveAnswer_result (a : Answer) (s : State) : (giveAnswer a s).result = s.result := rfl
@[simp] theorem giveAnswer_inSend (a : Answer) (s : State) : (giveAnswer a s).inSend = s.inSend := rfl
@[simp] theorem giveAnswer_script (a : Answer) (s : State) : (giveAnswer a s).script = s.script := rfl
@[simp] theorem giveAnswer_emitted (a : Answer) (s : State) : (giveAnswer a s).emitted = s.emitted := rfl
@[simp] theorem giveAnswer_heard (a : Answer) (s : State) : (giveAnswer a s).heard = s.heard := rfl
@[simp] theorem giveAnswer_taken (a : Answer) (s : State) : (giveAnswer a s).taken = s.taken := rfl
@[simp] theorem giveAnswer_answer (a : Answer) (s : State) : (giveAnswer a s).answer = a := rfl
@[simp] theorem giveAnswer_draws (a : Answer) (s : State) : (giveAnswer a s).draws = s.draws := rfl

@[simp] theorem tick_phase (s : State) : (tick s).phase = s.phase := rfl
@[simp] theorem tick_reqOp (s : State) : (tick s).reqOp = s.reqOp := rfl
@[simp] theorem tick_txbuf (s : State) : (tick s).txbuf = s.txbuf := rfl
@[simp] theorem tick_txCnt (s : State) : (tick s).txCnt = s.txCnt := rfl
@[simp] theorem tick_rxbuf (s : State) : (tick s).rxbuf = s.rxbuf := rfl
@[simp] theorem tick_rxCnt (s : State) : (tick s).rxCnt = s.rxCnt := rfl
@[simp] theorem tick_result (s : State) : (tick s).result = s.result := rfl
@[simp] theorem tick_inSend (s : State) : (tick s).inSend = s.inSend := rfl
@[simp] theorem tick_script (s : State) : (tick s).script = s.script := rfl
@[simp] theorem tick_emitted (s : State) : (tick s).emitted = s.emitted := rfl
@[simp] theorem tick_heard (s : State) : (tick s).heard = s.heard := rfl
@[simp] theorem tick_taken (s : State) : (tick s).taken = s.taken := rfl
@[simp] theorem tick_answer (s : State) : (tick s).answer = s.answer := rfl
@[simp] theorem tick_draws (s : State) : (tick s).draws = s.draws + 1 := rfl

@[simp] theorem consume_phase (rest : List Stimulus) (s : State) : (consume rest s).phase = s.phase := rfl
@[simp] theorem consume_reqOp (rest : List Stimulus) (s : State) : (consume rest s).reqOp = s.reqOp := rfl
@[simp] theorem consume_txbuf (rest : List Stimulus) (s : State) : (consume rest s).txbuf = s.txbuf := rfl
@[simp] theorem consume_txCnt (rest : List Stimulus) (s : State) : (consume rest s).txCnt = s.txCnt := rfl
@[simp] theorem consume_rxbuf (rest : List Stimulus) (s : State) : (consume rest s).rxbuf = s.rxbuf := rfl
@[simp] theorem consume_rxCnt (rest : List Stimulus) (s : State) : (consume rest s).rxCnt = s.rxCnt := rfl
@[simp] theorem consume_result (rest : List Stimulus) (s : State) : (consume rest s).result = s.result := rfl
@[simp] theorem consume_inSend (rest : List Stimulus) (s : State) : (consume rest s).inSend = s.inSend := rfl
@[simp] theorem consume_script (rest : List Stimulus) (s : State) : (consume rest s).script = rest := rfl
@[simp] theorem consume_emitted (rest : List Stimulus) (s : State) : (consume rest s).emitted = s.emitted := rfl
@[simp] theorem consume_heard (rest : List Stimulus) (s : State) : (consume rest s).heard = s.heard := rfl
@[simp] theorem consume_taken (rest : List Stimulus) (s : State) : (consume rest s).taken = s.taken := rfl
@[simp] theorem consume_answer (rest : List Stimulus) (s : State) : (consume rest s).answer = s.answer := rfl
@[simp] theorem consume_draws (rest : List Stimulus) (s : State) : (consume rest s).draws = s.draws + 1 := rfl

/-! The two shared updates that depend on the count: before and at the eighth byte (R92, R100). -/

theorem advanceTx_before (n : Nat) (b : Byte) (s : State) (h : n + 1 ≠ 8) :
    advanceTx n b s = { s with emitted := s.emitted ++ [b], txCnt := n + 1 } := by
  simp [advanceTx, h]

theorem advanceTx_last (b : Byte) (s : State) :
    advanceTx 7 b s =
      { s with emitted := s.emitted ++ [b], txCnt := 8, rxCnt := 0, phase := .rx } := rfl

theorem advanceRx_before (n : Nat) (b : Byte) (buf : Frame) (s : State) (h : n + 1 ≠ 8) :
    advanceRx n b buf s = { s with rxbuf := buf, heard := s.heard ++ [b], rxCnt := n + 1 } := by
  simp [advanceRx, h]

theorem advanceRx_last (b : Byte) (buf : Frame) (s : State) :
    advanceRx 7 b buf s =
      { s with rxbuf := buf, heard := s.heard ++ [b], rxCnt := 8,
               result := validate s.reqOp buf, phase := .done } := rfl

@[simp] theorem advanceTx_reqOp (n : Nat) (b : Byte) (s : State) :
    (advanceTx n b s).reqOp = s.reqOp := by
  unfold advanceTx; dsimp only; split <;> rfl
@[simp] theorem advanceTx_txbuf (n : Nat) (b : Byte) (s : State) :
    (advanceTx n b s).txbuf = s.txbuf := by
  unfold advanceTx; dsimp only; split <;> rfl
@[simp] theorem advanceTx_txCnt (n : Nat) (b : Byte) (s : State) :
    (advanceTx n b s).txCnt = n + 1 := by
  unfold advanceTx; dsimp only; split <;> rfl
@[simp] theorem advanceTx_rxbuf (n : Nat) (b : Byte) (s : State) :
    (advanceTx n b s).rxbuf = s.rxbuf := by
  unfold advanceTx; dsimp only; split <;> rfl
@[simp] theorem advanceTx_result (n : Nat) (b : Byte) (s : State) :
    (advanceTx n b s).result = s.result := by
  unfold advanceTx; dsimp only; split <;> rfl
@[simp] theorem advanceTx_inSend (n : Nat) (b : Byte) (s : State) :
    (advanceTx n b s).inSend = s.inSend := by
  unfold advanceTx; dsimp only; split <;> rfl
@[simp] theorem advanceTx_script (n : Nat) (b : Byte) (s : State) :
    (advanceTx n b s).script = s.script := by
  unfold advanceTx; dsimp only; split <;> rfl
@[simp] theorem advanceTx_emitted (n : Nat) (b : Byte) (s : State) :
    (advanceTx n b s).emitted = s.emitted ++ [b] := by
  unfold advanceTx; dsimp only; split <;> rfl
@[simp] theorem advanceTx_heard (n : Nat) (b : Byte) (s : State) :
    (advanceTx n b s).heard = s.heard := by
  unfold advanceTx; dsimp only; split <;> rfl
@[simp] theorem advanceTx_taken (n : Nat) (b : Byte) (s : State) :
    (advanceTx n b s).taken = s.taken := by
  unfold advanceTx; dsimp only; split <;> rfl
@[simp] theorem advanceTx_answer (n : Nat) (b : Byte) (s : State) :
    (advanceTx n b s).answer = s.answer := by
  unfold advanceTx; dsimp only; split <;> rfl
@[simp] theorem advanceTx_draws (n : Nat) (b : Byte) (s : State) :
    (advanceTx n b s).draws = s.draws := by
  unfold advanceTx; dsimp only; split <;> rfl

@[simp] theorem advanceRx_reqOp (n : Nat) (b : Byte) (buf : Frame) (s : State) :
    (advanceRx n b buf s).reqOp = s.reqOp := by
  unfold advanceRx; dsimp only; split <;> rfl
@[simp] theorem advanceRx_txbuf (n : Nat) (b : Byte) (buf : Frame) (s : State) :
    (advanceRx n b buf s).txbuf = s.txbuf := by
  unfold advanceRx; dsimp only; split <;> rfl
@[simp] theorem advanceRx_txCnt (n : Nat) (b : Byte) (buf : Frame) (s : State) :
    (advanceRx n b buf s).txCnt = s.txCnt := by
  unfold advanceRx; dsimp only; split <;> rfl
@[simp] theorem advanceRx_rxbuf (n : Nat) (b : Byte) (buf : Frame) (s : State) :
    (advanceRx n b buf s).rxbuf = buf := by
  unfold advanceRx; dsimp only; split <;> rfl
@[simp] theorem advanceRx_rxCnt (n : Nat) (b : Byte) (buf : Frame) (s : State) :
    (advanceRx n b buf s).rxCnt = n + 1 := by
  unfold advanceRx; dsimp only; split <;> rfl
@[simp] theorem advanceRx_inSend (n : Nat) (b : Byte) (buf : Frame) (s : State) :
    (advanceRx n b buf s).inSend = s.inSend := by
  unfold advanceRx; dsimp only; split <;> rfl
@[simp] theorem advanceRx_script (n : Nat) (b : Byte) (buf : Frame) (s : State) :
    (advanceRx n b buf s).script = s.script := by
  unfold advanceRx; dsimp only; split <;> rfl
@[simp] theorem advanceRx_emitted (n : Nat) (b : Byte) (buf : Frame) (s : State) :
    (advanceRx n b buf s).emitted = s.emitted := by
  unfold advanceRx; dsimp only; split <;> rfl
@[simp] theorem advanceRx_heard (n : Nat) (b : Byte) (buf : Frame) (s : State) :
    (advanceRx n b buf s).heard = s.heard ++ [b] := by
  unfold advanceRx; dsimp only; split <;> rfl
@[simp] theorem advanceRx_taken (n : Nat) (b : Byte) (buf : Frame) (s : State) :
    (advanceRx n b buf s).taken = s.taken := by
  unfold advanceRx; dsimp only; split <;> rfl
@[simp] theorem advanceRx_answer (n : Nat) (b : Byte) (buf : Frame) (s : State) :
    (advanceRx n b buf s).answer = s.answer := by
  unfold advanceRx; dsimp only; split <;> rfl
@[simp] theorem advanceRx_draws (n : Nat) (b : Byte) (buf : Frame) (s : State) :
    (advanceRx n b buf s).draws = s.draws := by
  unfold advanceRx; dsimp only; split <;> rfl

theorem advanceTx_phase (n : Nat) (b : Byte) (s : State) :
    (advanceTx n b s).phase = if n = 7 then .rx else s.phase := by
  by_cases h : n = 7 <;> simp [advanceTx, h]

theorem advanceRx_phase (n : Nat) (b : Byte) (buf : Frame) (s : State) :
    (advanceRx n b buf s).phase = if n = 7 then .done else s.phase := by
  by_cases h : n = 7 <;> simp [advanceRx, h]

theorem advanceRx_result (n : Nat) (b : Byte) (buf : Frame) (s : State) :
    (advanceRx n b buf s).result = if n = 7 then validate s.reqOp buf else s.result := by
  by_cases h : n = 7 <;> simp [advanceRx, h]

end Sys2Proof.Machine
end

