-- ==== Sys2Proof/Laws/Frame.lean ====
section
/-! SUPPORT. The small lemmas of the frame map: reading the bytes of an assembled frame, the two
bytes of a 16-bit word, one-byte access to a buffer (spec/20_memory.md R40 to R42). -/

namespace Sys2Proof.Machine

/-- The checksum goes low byte first (R42, R65). -/
@[simp] theorem checksumBytes_eq (v : Half) : checksumBytes v = (lowByte v, highByte v) := rfl

/-- The stored checksum is `{F[7], F[6]}` (R42, R65). -/
@[simp] theorem checksumOfBytes_eq (b6 b7 : Byte) : checksumOfBytes b6 b7 = halfOfBytes b7 b6 := rfl

@[simp] theorem frameOfFields_0 (d : Fields) : (frameOfFields d)[0] = d.marker := rfl
@[simp] theorem frameOfFields_1 (d : Fields) : (frameOfFields d)[1] = d.opCode := rfl
@[simp] theorem frameOfFields_2 (d : Fields) : (frameOfFields d)[2] = d.payload[0] := rfl
@[simp] theorem frameOfFields_3 (d : Fields) : (frameOfFields d)[3] = d.payload[1] := rfl
@[simp] theorem frameOfFields_4 (d : Fields) : (frameOfFields d)[4] = d.payload[2] := rfl
@[simp] theorem frameOfFields_5 (d : Fields) : (frameOfFields d)[5] = d.payload[3] := rfl
@[simp] theorem frameOfFields_6 (d : Fields) : (frameOfFields d)[6] = lowByte d.checksum := rfl
@[simp] theorem frameOfFields_7 (d : Fields) : (frameOfFields d)[7] = highByte d.checksum := rfl

/-- A 16-bit word is its two bytes. -/
@[simp] theorem halfOfBytes_high_low (v : Half) : halfOfBytes (highByte v) (lowByte v) = v := by
  apply BitVec.eq_of_getLsbD_eq
  intro i hi
  simp only [halfOfBytes, highByte, lowByte, BitVec.getLsbD_append, BitVec.getLsbD_extractLsb']
  by_cases h : i < 8
  · simp [h]
  · have : i - 8 < 8 := by omega
    have e : 8 + (i - 8) = i := by omega
    simp [h, this, e]

/-- Bit `i` of `{hi, lo}`. -/
theorem getLsbD_halfOfBytes (hi lo : Byte) (i : Nat) :
    (halfOfBytes hi lo).getLsbD i = if i < 8 then lo.getLsbD i else hi.getLsbD (i - 8) := by
  rw [halfOfBytes, BitVec.getLsbD_append]

@[simp] theorem lowByte_halfOfBytes (hi lo : Byte) : lowByte (halfOfBytes hi lo) = lo := by
  apply BitVec.eq_of_getLsbD_eq
  intro i h
  rw [lowByte, BitVec.getLsbD_extractLsb', getLsbD_halfOfBytes]
  simp [h]

@[simp] theorem highByte_halfOfBytes (hi lo : Byte) : highByte (halfOfBytes hi lo) = hi := by
  apply BitVec.eq_of_getLsbD_eq
  intro i h
  rw [highByte, BitVec.getLsbD_extractLsb', getLsbD_halfOfBytes]
  simp [h]

/-- Four bytes taken out of a payload vector and put back are the payload. -/
@[simp] theorem payload_eta (p : Payload) : (#v[p[0], p[1], p[2], p[3]] : Payload) = p := by
  ext i hi
  match i, hi with
  | 0, _ | 1, _ | 2, _ | 3, _ => rfl

/-- Eight bytes taken out of a frame and put back are the frame. -/
@[simp] theorem frame_eta (f : Frame) :
    (#v[f[0], f[1], f[2], f[3], f[4], f[5], f[6], f[7]] : Frame) = f := by
  ext i hi
  match i, hi with
  | 0, _ | 1, _ | 2, _ | 3, _ | 4, _ | 5, _ | 6, _ | 7, _ => rfl

@[simp] theorem framePayload_frameOfFields (d : Fields) :
    framePayload (frameOfFields d) = d.payload := payload_eta d.payload

@[simp] theorem frameChecksum_frameOfFields (d : Fields) :
    frameChecksum (frameOfFields d) = d.checksum := halfOfBytes_high_low d.checksum

/-- A byte is read exactly at the offsets 0 to 7. -/
theorem readByte_of_lt (buf : Frame) (i : Nat) (h : i < 8) : readByte buf i = some buf[i] := by
  simp [readByte, h]

theorem readByte_of_ge (buf : Frame) (i : Nat) (h : 8 ≤ i) : readByte buf i = none := by
  simp [readByte, h]

theorem writeByte_of_lt (buf : Frame) (i : Nat) (v : Byte) (h : i < 8) :
    writeByte buf i v = some (buf.set i v) := by
  simp [writeByte, h]

theorem writeByte_of_ge (buf : Frame) (i : Nat) (v : Byte) (h : 8 ≤ i) :
    writeByte buf i v = none := by
  simp [writeByte, Nat.not_lt.mpr h]

/-- A write is read back at its offset, and every other offset reads as before. -/
theorem readByte_writeByte (buf buf' : Frame) (i j : Nat) (v : Byte)
    (h : writeByte buf i v = some buf') :
    readByte buf' j = if j = i then some v else readByte buf j := by
  unfold writeByte at h
  split at h
  · cases h
    unfold readByte
    rw [Vector.getElem?_set]
    grind
  · cases h

/-- With its reflections off and its final XOR zero, `crc16` is the plain loop of R83. -/
theorem crc16_eq_foldl (m : List Byte) : crc16 m = m.foldl crcByte 0 := by
  simp [crc16]

end Sys2Proof.Machine
end

