-- ==== Sys2Proof/Laws/Decode.lean ====
section
/-! SUPPORT. The op_code map read both ways (spec/30_encoding.md R67), and what the frames of the
listed rows decode from and encode to. -/

namespace Sys2Proof

open Machine

/-- The request op_code of a listed command is looked up again. -/
theorem listedRequest_opCode (o : ListedOp) : listedRequest (opCode o) = some o := by
  cases o <;> decide

/-- The response op_code of a listed command is looked up again. -/
theorem listedResponse_rspOp (o : ListedOp) : listedResponse (rspOp (opCode o)) = some o := by
  cases o <;> decide

/-- A request op_code that is looked up is that command's. -/
theorem opCode_of_listedRequest {x : Byte} {o : ListedOp} (h : listedRequest x = some o) :
    opCode o = x := by
  simpa using List.find?_some h

/-- A response op_code that is looked up is that command's. -/
theorem rspOp_of_listedResponse {r : Byte} {o : ListedOp} (h : listedResponse r = some o) :
    rspOp (opCode o) = r := by
  simpa using List.find?_some h

theorem encode_requestRow (o : ListedOp) (p : Payload) (sum : Half) :
    encode (requestRow o p sum) = .frame .request (requestFrame (opCode o) p sum) := by
  cases o <;> rfl

theorem encode_responseRow (o : ListedOp) (m : Byte) (p : Payload) (sum : Half) :
    encode (responseRow o m p sum) = .frame .response (responseFrame (opCode o) m p sum) := by
  cases o <;> rfl

theorem decodeFrame_requestFrame (o : ListedOp) (p : Payload) (sum : Half) :
    decodeFrame .request (requestFrame (opCode o) p sum) = .ok (requestRow o p sum) := by
  have h0 : (requestFrame (opCode o) p sum)[0] = params.marker := rfl
  have h1 : (requestFrame (opCode o) p sum)[1] = opCode o := rfl
  simp only [decodeFrame, h0, h1, if_true, listedRequest_opCode]
  simp [requestFrame]

theorem decodeFrame_responseFrame (o : ListedOp) (m : Byte) (p : Payload) (sum : Half) :
    decodeFrame .response (responseFrame (opCode o) m p sum) = .ok (responseRow o m p sum) := by
  have h0 : (responseFrame (opCode o) m p sum)[0] = m := rfl
  have h1 : (responseFrame (opCode o) m p sum)[1] = rspOp (opCode o) := rfl
  simp only [decodeFrame, h0, h1, listedResponse_rspOp]
  simp [responseFrame]

/-- The payload given on `cmd_payload` is the payload unpacked from it (R64). -/
theorem unpackPayload_packPayload (p : Payload) : unpackPayload (packPayload p) = p := by
  ext i hi j hj
  simp only [unpackPayload, packPayload]
  match i, hi with
  | 0, _ | 1, _ | 2, _ | 3, _ => simp [BitVec.getElem_extractLsb']; grind

/-- A frame is read back from its word (R9). -/
theorem frameOfWord_frameWord (f : Frame) : frameOfWord (frameWord f) = f := by
  ext i hi j hj
  simp only [frameOfWord, frameWord]
  match i, hi with
  | 0, _ | 1, _ | 2, _ | 3, _ | 4, _ | 5, _ | 6, _ | 7, _ =>
    simp [BitVec.getElem_extractLsb']; grind

end Sys2Proof
end

