-- ==== Sys2Proof/Laws/Ops.lean ====
section
/-! SUPPORT. One lemma per shared operation that says once everything it can do. -/

namespace Sys2Proof.Machine

/-- `issueCommand` always answers next: the accepted command in IDLE, the same state elsewhere. -/
theorem issueCommand_cases (op : Byte) (p : Payload) (s : State) :
    (s.phase = .idle ∧ issueCommand op p s = .next (accept op p s)) ∨
    (s.phase ≠ .idle ∧ issueCommand op p s = .next s) := by
  unfold issueCommand
  cases h : s.phase <;> simp

/-- `sendCommand` always answers next. -/
theorem sendCommand_cases (op : Byte) (p : Payload) (s : State) :
    (s.phase = .idle ∧ sendCommand op p s = .next { accept op p s with inSend := true }) ∨
    (s.phase ≠ .idle ∧ sendCommand op p s = .next s) := by
  unfold sendCommand
  cases h : s.phase <;> simp

/-- `transmitByte` emits the byte at the count, does not fire, or faults at an offset out of range. -/
theorem transmitByte_cases (s : State) :
    (∃ h : s.txCnt < 8, s.phase = .tx ∧
      transmitByte s = .next (advanceTx s.txCnt s.txbuf[s.txCnt] s)) ∨
    (s.phase = .tx ∧ 8 ≤ s.txCnt ∧ transmitByte s = .fault (.txOffset s.txCnt)) ∨
    (s.phase ≠ .tx ∧ transmitByte s = .next s) := by
  unfold transmitByte
  cases h : s.phase <;> simp
  by_cases hn : s.txCnt < 8
  · exact .inl (by simp [readByte_of_lt _ _ hn, hn])
  · exact .inr (by simp [readByte_of_ge _ _ (Nat.not_lt.mp hn)]; omega)

/-- `receiveByte` stores the byte at the count, does not fire, or faults at an offset out of range. -/
theorem receiveByte_cases (b : Byte) (s : State) :
    (∃ h : s.rxCnt < 8, s.phase = .rx ∧
      receiveByte b s = .next (advanceRx s.rxCnt b (s.rxbuf.set s.rxCnt b) s)) ∨
    (s.phase = .rx ∧ 8 ≤ s.rxCnt ∧ receiveByte b s = .fault (.rxOffset s.rxCnt)) ∨
    (s.phase ≠ .rx ∧ receiveByte b s = .next s) := by
  unfold receiveByte
  cases h : s.phase <;> simp
  by_cases hn : s.rxCnt < 8
  · exact .inl (by simp [writeByte_of_lt _ _ _ hn, hn])
  · exact .inr (by simp [writeByte_of_ge _ _ _ (Nat.not_lt.mp hn)]; omega)

/-- `execTake` returns from DONE and does not fire elsewhere. -/
theorem execTake_cases (s : State) :
    (s.phase = .done ∧ execTake s = .next (returnToIdle s)) ∨
    (s.phase ≠ .done ∧ execTake s = .next s) := by
  unfold execTake
  cases h : s.phase <;> simp

/-- `execAbort` ends an exchange in flight and is ignored otherwise. -/
theorem execAbort_cases (s : State) :
    (inFlight s.phase = true ∧ execAbort s = .next (endExchange .ioError s)) ∨
    (inFlight s.phase = false ∧ execAbort s = .next s) := by
  unfold execAbort
  cases h : s.phase <;> simp [inFlight]

/-- Every REQ row of a listed command is `SEND` of its op_code. -/
theorem exec_requestRow (o : ListedOp) (p : Payload) (sum : Half) (s : State) :
    exec (requestRow o p sum) s = sendCommand (opCode o) p s := by
  cases o <;> rfl

/-- Every RSP row of a listed command is the arrival of its frame. -/
theorem exec_responseRow (o : ListedOp) (m : Byte) (p : Payload) (sum : Half) (s : State) :
    exec (responseRow o m p sum) s = receiveFrame (responseFrame (opCode o) m p sum) s := by
  cases o <;> rfl

/-- Which shared operation each instruction is, in every state: it changes the answer only, is a
command, moves a byte, brings a frame, returns, ends an exchange, or releases the block. -/
theorem exec_form (i : Instr) :
    (∃ a, ∀ s, exec i s = .next (giveAnswer a s)) ∨
    (∃ op p, ∀ s, exec i s = issueCommand op p s) ∨
    (∃ op p, ∀ s, exec i s = sendCommand op p s) ∨
    (∀ s, exec i s = transmitByte s) ∨
    (∃ b, ∀ s, exec i s = receiveByte b s) ∨
    (∃ f, ∀ s, exec i s = receiveFrame f s) ∨
    (∀ s, exec i s = execTake s) ∨
    (i = .abort ∧ ∀ s, exec i s = execAbort s) ∨
    (isReset i = true ∧ ∀ s, exec i s = .next (release s)) := by
  cases i
  case abort => exact .inr (.inr (.inr (.inr (.inr (.inr (.inr (.inl ⟨rfl, fun _ => rfl⟩)))))))
  case clear => exact .inr (.inr (.inr (.inr (.inr (.inr (.inr (.inr ⟨rfl, fun _ => rfl⟩)))))))
  case rst => exact .inr (.inr (.inr (.inr (.inr (.inr (.inr (.inr ⟨rfl, fun _ => rfl⟩)))))))
  case take => exact .inr (.inr (.inr (.inr (.inr (.inr (.inl fun _ => rfl))))))
  case txb => exact .inr (.inr (.inr (.inl fun _ => rfl)))
  case rxb b => exact .inr (.inr (.inr (.inr (.inl ⟨b, fun _ => rfl⟩))))
  case cmd op p => exact .inr (.inl ⟨op, p, fun _ => rfl⟩)
  all_goals first
    | exact .inl ⟨_, fun _ => rfl⟩
    | exact .inr (.inr (.inl ⟨_, _, fun _ => rfl⟩))
    | exact .inr (.inr (.inr (.inr (.inr (.inl ⟨_, fun _ => rfl⟩)))))

/-- What one operation does to one state. -/
theorem exec_cases (i : Instr) (s : State) :
    (∃ a, exec i s = .next (giveAnswer a s)) ∨
    (∃ op p, exec i s = issueCommand op p s) ∨
    (∃ op p, exec i s = sendCommand op p s) ∨
    (exec i s = transmitByte s) ∨
    (∃ b, exec i s = receiveByte b s) ∨
    (∃ f, exec i s = receiveFrame f s) ∨
    (exec i s = execTake s) ∨
    (i = .abort ∧ exec i s = execAbort s) ∨
    (isReset i = true ∧ exec i s = .next (release s)) := by
  rcases exec_form i with ⟨a, h⟩ | ⟨op, p, h⟩ | ⟨op, p, h⟩ | h | ⟨b, h⟩ | ⟨f, h⟩ | h | ⟨hi, h⟩ | ⟨hi, h⟩
  · exact .inl ⟨a, h s⟩
  · exact .inr (.inl ⟨op, p, h s⟩)
  · exact .inr (.inr (.inl ⟨op, p, h s⟩))
  · exact .inr (.inr (.inr (.inl (h s))))
  · exact .inr (.inr (.inr (.inr (.inl ⟨b, h s⟩))))
  · exact .inr (.inr (.inr (.inr (.inr (.inl ⟨f, h s⟩)))))
  · exact .inr (.inr (.inr (.inr (.inr (.inr (.inl (h s)))))))
  · exact .inr (.inr (.inr (.inr (.inr (.inr (.inr (.inl ⟨hi, h s⟩)))))))
  · exact .inr (.inr (.inr (.inr (.inr (.inr (.inr (.inr ⟨hi, h s⟩)))))))

/-- What every step does: it waits, it runs one operation on the state whose script has been read on,
it takes the result of a call of `SEND`, or it refuses. -/
theorem fetch_cases (s : State) :
    (fetch s = .wait (tick s) ∧ s.script = [] ∧ returning s = false) ∨
    (fetch s = .run .take (tick s) ∧ returning s = true) ∨
    (∃ x rest, s.script = x :: rest ∧ (returning s = false ∨ resets x = true) ∧
      fetch s = readStimulus x rest s) := by
  unfold fetch
  cases hs : s.script with
  | nil => cases hr : returning s <;> simp
  | cons x rest =>
    cases hr : returning s <;> cases hx : resets x <;> simp [hx]

end Sys2Proof.Machine
end

