-- ==== Sys2Proof/Laws/PerInstr.lean ====
section
/-! SUPPORT. The statements about every instruction as syntax, one lemma per constructor. -/

namespace Sys2Proof.Laws.EncodesByFormat

/-- The encoding of an instruction is of the kind its row's `format` says: a request frame with the
fixed marker 0xAA for a REQ row, a response frame for an RSP row, port values for an EVENT row, no
encoding, the line itself, for a FUNC row (spec/30_encoding.md R74). -/
def Statement (i : Instr) : Prop :=
  match formatOf i with
  | .req => ∃ f : Frame, encode i = .frame .request f ∧ f[0] = Machine.params.marker
  | .rsp => ∃ f : Frame, encode i = .frame .response f
  | .event => ∃ p : Pins, encode i = .ports p
  | .func => encode i = .line i

theorem heartbeat (p : Payload) (sum : Half) : Statement (.heartbeat p sum) := ⟨_, rfl, rfl⟩
theorem getTemp (p : Payload) (sum : Half) : Statement (.getTemp p sum) := ⟨_, rfl, rfl⟩
theorem getHumidity (p : Payload) (sum : Half) : Statement (.getHumidity p sum) := ⟨_, rfl, rfl⟩
theorem getDewPoint (p : Payload) (sum : Half) : Statement (.getDewPoint p sum) := ⟨_, rfl, rfl⟩
theorem getSetpointOffset (p : Payload) (sum : Half) : Statement (.getSetpointOffset p sum) := ⟨_, rfl, rfl⟩
theorem getPCoef (p : Payload) (sum : Half) : Statement (.getPCoef p sum) := ⟨_, rfl, rfl⟩
theorem getICoef (p : Payload) (sum : Half) : Statement (.getICoef p sum) := ⟨_, rfl, rfl⟩
theorem getDCoef (p : Payload) (sum : Half) : Statement (.getDCoef p sum) := ⟨_, rfl, rfl⟩
theorem getPowerLevel (p : Payload) (sum : Half) : Statement (.getPowerLevel p sum) := ⟨_, rfl, rfl⟩
theorem getHwVersion (p : Payload) (sum : Half) : Statement (.getHwVersion p sum) := ⟨_, rfl, rfl⟩
theorem getFwVersion (p : Payload) (sum : Half) : Statement (.getFwVersion p sum) := ⟨_, rfl, rfl⟩
theorem setSetpointOffset (p : Payload) (sum : Half) : Statement (.setSetpointOffset p sum) := ⟨_, rfl, rfl⟩
theorem setPCoef (p : Payload) (sum : Half) : Statement (.setPCoef p sum) := ⟨_, rfl, rfl⟩
theorem setICoef (p : Payload) (sum : Half) : Statement (.setICoef p sum) := ⟨_, rfl, rfl⟩
theorem setDCoef (p : Payload) (sum : Half) : Statement (.setDCoef p sum) := ⟨_, rfl, rfl⟩
theorem setEnable (p : Payload) (sum : Half) : Statement (.setEnable p sum) := ⟨_, rfl, rfl⟩
theorem setPowerLevel (p : Payload) (sum : Half) : Statement (.setPowerLevel p sum) := ⟨_, rfl, rfl⟩
theorem resetBoard (p : Payload) (sum : Half) : Statement (.resetBoard p sum) := ⟨_, rfl, rfl⟩
theorem getBoardTemp (p : Payload) (sum : Half) : Statement (.getBoardTemp p sum) := ⟨_, rfl, rfl⟩
theorem getTecVoltage (p : Payload) (sum : Half) : Statement (.getTecVoltage p sum) := ⟨_, rfl, rfl⟩
theorem getTecCurrent (p : Payload) (sum : Half) : Statement (.getTecCurrent p sum) := ⟨_, rfl, rfl⟩
theorem heartbeatRsp (m : Byte) (p : Payload) (sum : Half) : Statement (.heartbeatRsp m p sum) := ⟨_, rfl⟩
theorem getTempRsp (m : Byte) (p : Payload) (sum : Half) : Statement (.getTempRsp m p sum) := ⟨_, rfl⟩
theorem getHumidityRsp (m : Byte) (p : Payload) (sum : Half) : Statement (.getHumidityRsp m p sum) := ⟨_, rfl⟩
theorem getDewPointRsp (m : Byte) (p : Payload) (sum : Half) : Statement (.getDewPointRsp m p sum) := ⟨_, rfl⟩
theorem getSetpointOffsetRsp (m : Byte) (p : Payload) (sum : Half) : Statement (.getSetpointOffsetRsp m p sum) := ⟨_, rfl⟩
theorem getPCoefRsp (m : Byte) (p : Payload) (sum : Half) : Statement (.getPCoefRsp m p sum) := ⟨_, rfl⟩
theorem getICoefRsp (m : Byte) (p : Payload) (sum : Half) : Statement (.getICoefRsp m p sum) := ⟨_, rfl⟩
theorem getDCoefRsp (m : Byte) (p : Payload) (sum : Half) : Statement (.getDCoefRsp m p sum) := ⟨_, rfl⟩
theorem getPowerLevelRsp (m : Byte) (p : Payload) (sum : Half) : Statement (.getPowerLevelRsp m p sum) := ⟨_, rfl⟩
theorem getHwVersionRsp (m : Byte) (p : Payload) (sum : Half) : Statement (.getHwVersionRsp m p sum) := ⟨_, rfl⟩
theorem getFwVersionRsp (m : Byte) (p : Payload) (sum : Half) : Statement (.getFwVersionRsp m p sum) := ⟨_, rfl⟩
theorem setSetpointOffsetRsp (m : Byte) (p : Payload) (sum : Half) : Statement (.setSetpointOffsetRsp m p sum) := ⟨_, rfl⟩
theorem setPCoefRsp (m : Byte) (p : Payload) (sum : Half) : Statement (.setPCoefRsp m p sum) := ⟨_, rfl⟩
theorem setICoefRsp (m : Byte) (p : Payload) (sum : Half) : Statement (.setICoefRsp m p sum) := ⟨_, rfl⟩
theorem setDCoefRsp (m : Byte) (p : Payload) (sum : Half) : Statement (.setDCoefRsp m p sum) := ⟨_, rfl⟩
theorem setEnableRsp (m : Byte) (p : Payload) (sum : Half) : Statement (.setEnableRsp m p sum) := ⟨_, rfl⟩
theorem setPowerLevelRsp (m : Byte) (p : Payload) (sum : Half) : Statement (.setPowerLevelRsp m p sum) := ⟨_, rfl⟩
theorem resetBoardRsp (m : Byte) (p : Payload) (sum : Half) : Statement (.resetBoardRsp m p sum) := ⟨_, rfl⟩
theorem getBoardTempRsp (m : Byte) (p : Payload) (sum : Half) : Statement (.getBoardTempRsp m p sum) := ⟨_, rfl⟩
theorem getTecVoltageRsp (m : Byte) (p : Payload) (sum : Half) : Statement (.getTecVoltageRsp m p sum) := ⟨_, rfl⟩
theorem getTecCurrentRsp (m : Byte) (p : Payload) (sum : Half) : Statement (.getTecCurrentRsp m p sum) := ⟨_, rfl⟩
theorem encode (op : Byte) (p : Payload) (sum : Half) : Statement (.encode op p sum) := ⟨_, rfl, rfl⟩
theorem decode (marker op : Byte) (p : Payload) (sum : Half) : Statement (.decode marker op p sum) := ⟨_, rfl⟩
theorem crcBit (c : Half) (d : Bool) : Statement (.crcBit c d) := rfl
theorem crcByte (c : Half) (b : Byte) : Statement (.crcByte c b) := rfl
theorem crc6 (m : Message) : Statement (.crc6 m) := rfl
theorem crcCheck (f : Frame) : Statement (.crcCheck f) := rfl
theorem opchk (x r : Byte) : Statement (.opchk x r) := rfl
theorem cschk (f : Frame) : Statement (.cschk f) := rfl
theorem validate (x : Byte) (f : Frame) : Statement (.validate x f) := rfl
theorem send (op : Byte) (p : Payload) : Statement (.send op p) := rfl
theorem cmd (op : Byte) (p : Payload) : Statement (.cmd op p) := ⟨_, rfl⟩
theorem txb : Statement (.txb) := ⟨_, rfl⟩
theorem rxb (b : Byte) : Statement (.rxb b) := ⟨_, rfl⟩
theorem take : Statement (.take) := ⟨_, rfl⟩
theorem abort : Statement (.abort) := ⟨_, rfl⟩
theorem clear : Statement (.clear) := ⟨_, rfl⟩
theorem rst : Statement (.rst) := ⟨_, rfl⟩

end Sys2Proof.Laws.EncodesByFormat
end

