-- ==== Sys2Proof/Laws/Step.lean ====
section
/-! SUPPORT. What a next state can be, once for all operations and once for the step, and how a run
unrolls. -/

namespace Sys2Proof.Machine

/-- Every next state of every operation: unchanged, a new answer, an accepted command, a byte sent,
a script read on, a byte received, a return, an ended exchange, or a released block. -/
theorem exec_next (i : Instr) (s t : State) (h : exec i s = .next t) :
    t = s ∨ (∃ a, t = giveAnswer a s) ∨
    (s.phase = .idle ∧ ∃ op p b, t = { accept op p s with inSend := b } ∧
      (b = true ∨ b = s.inSend)) ∨
    (∃ h : s.txCnt < 8, s.phase = .tx ∧ t = advanceTx s.txCnt s.txbuf[s.txCnt] s) ∨
    (∃ sc, t = { s with script := sc }) ∨
    (∃ (h : s.rxCnt < 8) (b : Byte) (sc : List Stimulus), s.phase = .rx ∧
      t = { advanceRx s.rxCnt b (s.rxbuf.set s.rxCnt b) s with script := sc }) ∨
    (s.phase = .done ∧ t = returnToIdle s) ∨
    (inFlight s.phase = true ∧ t = endExchange .ioError s) ∨
    t = release s := by
  have rx : ∀ b sc, receiveByte b { s with script := sc } = .next t →
      (∃ (h : s.rxCnt < 8) (b : Byte) (sc : List Stimulus), s.phase = .rx ∧
        t = { advanceRx s.rxCnt b (s.rxbuf.set s.rxCnt b) s with script := sc }) ∨
      (∃ sc, t = { s with script := sc }) := by
    intro b sc h
    rcases receiveByte_cases b { s with script := sc } with ⟨h8, hp, e⟩ | ⟨_, _, e⟩ | ⟨_, e⟩ <;>
      rw [e] at h <;> cases h
    · exact .inl ⟨h8, b, sc, hp, by unfold advanceRx; dsimp only; split <;> rfl⟩
    · exact .inr ⟨sc, rfl⟩
  rcases exec_cases i s with ⟨a, e⟩ | ⟨op, p, e⟩ | ⟨op, p, e⟩ | e | ⟨b, e⟩ | ⟨f, e⟩ | e | ⟨_, e⟩ |
    ⟨_, e⟩ <;> rw [e] at h
  · cases h; exact .inr (.inl ⟨_, rfl⟩)
  · rcases issueCommand_cases op p s with ⟨hp, e⟩ | ⟨_, e⟩ <;> rw [e] at h <;> cases h
    · exact .inr (.inr (.inl ⟨hp, op, p, s.inSend, rfl, .inr rfl⟩))
    · exact .inl rfl
  · rcases sendCommand_cases op p s with ⟨hp, e⟩ | ⟨_, e⟩ <;> rw [e] at h <;> cases h
    · exact .inr (.inr (.inl ⟨hp, op, p, true, rfl, .inl rfl⟩))
    · exact .inl rfl
  · rcases transmitByte_cases s with ⟨h8, hp, e⟩ | ⟨_, _, e⟩ | ⟨_, e⟩ <;> rw [e] at h <;> cases h
    · exact .inr (.inr (.inr (.inl ⟨h8, hp, rfl⟩)))
    · exact .inl rfl
  · rcases rx b s.script h with h | h
    · exact .inr (.inr (.inr (.inr (.inr (.inl h)))))
    · exact .inr (.inr (.inr (.inr (.inl h))))
  · rcases rx f[0] _ h with h | h
    · exact .inr (.inr (.inr (.inr (.inr (.inl h)))))
    · exact .inr (.inr (.inr (.inr (.inl h))))
  · rcases execTake_cases s with ⟨hp, e⟩ | ⟨_, e⟩ <;> rw [e] at h <;> cases h
    · exact .inr (.inr (.inr (.inr (.inr (.inr (.inl ⟨hp, rfl⟩))))))
    · exact .inl rfl
  · rcases execAbort_cases s with ⟨hp, e⟩ | ⟨_, e⟩ <;> rw [e] at h <;> cases h
    · exact .inr (.inr (.inr (.inr (.inr (.inr (.inr (.inl ⟨hp, rfl⟩)))))))
    · exact .inl rfl
  · cases h; exact .inr (.inr (.inr (.inr (.inr (.inr (.inr (.inr rfl)))))))

/-- No operation refuses: every arm of `exec` has its meaning. -/
theorem exec_ne_refused (i : Instr) (s : State) (r : Refusal) : exec i s ≠ .refused r := by
  intro h
  have rx : ∀ b u, receiveByte b u ≠ .refused r := by
    intro b u h
    rcases receiveByte_cases b u with ⟨_, _, e⟩ | ⟨_, _, e⟩ | ⟨_, e⟩ <;> rw [e] at h <;> cases h
  rcases exec_cases i s with ⟨a, e⟩ | ⟨op, p, e⟩ | ⟨op, p, e⟩ | e | ⟨b, e⟩ | ⟨f, e⟩ | e | ⟨_, e⟩ |
    ⟨_, e⟩ <;> rw [e] at h
  · cases h
  · rcases issueCommand_cases op p s with ⟨_, e⟩ | ⟨_, e⟩ <;> rw [e] at h <;> cases h
  · rcases sendCommand_cases op p s with ⟨_, e⟩ | ⟨_, e⟩ <;> rw [e] at h <;> cases h
  · rcases transmitByte_cases s with ⟨_, _, e⟩ | ⟨_, _, e⟩ | ⟨_, e⟩ <;> rw [e] at h <;> cases h
  · exact rx b s h
  · exact rx _ _ h
  · rcases execTake_cases s with ⟨_, e⟩ | ⟨_, e⟩ <;> rw [e] at h <;> cases h
  · rcases execAbort_cases s with ⟨_, e⟩ | ⟨_, e⟩ <;> rw [e] at h <;> cases h
  · cases h

/-- Every next state of the step: it waited, or it ran one operation, on the state whose draw counter
has advanced and whose script has at most been read on. -/
theorem step_next (s t : State) (h : step s = .next t) :
    (t = tick s ∨ ∃ rest, t = consume rest s) ∨
    (∃ i u, exec i u = .next t ∧ (u = tick s ∨ ∃ rest, u = consume rest s)) := by
  rcases fetch_cases s with ⟨hf, _, _⟩ | ⟨hf, _⟩ | ⟨x, rest, hs, hrr, hf⟩
  · simp only [step, hf] at h; cases h; exact .inl (.inl rfl)
  · simp only [step, hf] at h; exact .inr ⟨_, _, h, .inl rfl⟩
  · unfold readStimulus at hf
    split at hf <;> simp only [step, hf] at h
    · exact .inr ⟨_, _, h, .inr ⟨_, rfl⟩⟩
    · cases h; exact .inl (.inr ⟨_, rfl⟩)
    · cases h

/-- A run of `k + 1` steps whose first answers next is the run of `k` steps from there. -/
theorem run_succ (k : Nat) (s t : State) (h : step s = .next t) : run (k + 1) s = run k t := by
  have h : core.step s = .next t := h
  show Host.Core.run core (k + 1) s = _
  simp only [Host.Core.run, h]
  rfl

@[simp] theorem run_zero (s : State) : run 0 s = .next s := rfl

end Sys2Proof.Machine
end

