-- ==== Sys2Proof/Tests/Slice0.lean ====
section
/-! SUPPORT. Small tests, one step each, their expected values taken from spec/95_test_vectors.md or
by hand from the rule named, and one witness for each statement that has hypotheses. -/

namespace Sys2Proof.Machine

open Sys2Proof

-- One thread: these many small kernel evaluations at once take more threads than memory allows.
set_option Elab.async false

/-! ### Helpers -/

/-- The next state, if there is one. -/
def nextOf : Host.Outcome State Fault Refusal → Option State
  | .next t => some t
  | .fault _ => none
  | .refused _ => none

/-- The fault, if there is one. -/
def faultOf : Host.Outcome State Fault Refusal → Option Fault
  | .fault r => some r
  | .next _ => none
  | .refused _ => none

/-- The refusal, if there is one. -/
def refusedOf : Host.Outcome State Fault Refusal → Option Refusal
  | .refused r => some r
  | .next _ => none
  | .fault _ => none

/-- The value a function-level operation shows. -/
def shownBy (i : Instr) : Option Answer := (nextOf (exec i State.reset)).map (·.answer)

/-- Four zero payload bytes. -/
def zeros : Payload := #v[0, 0, 0, 0]

/-- The frame of E1 (95_test_vectors 2.2). -/
def disableFrame : Frame := #v[0xAA, 0x18, 0x01, 0x00, 0x00, 0x00, 0xE9, 0x17]

/-- The response of steps 10 to 17 (95_test_vectors 2.3). -/
def echoFrame : Frame := #v[0xAA, 0x97, 0x01, 0x00, 0x00, 0x00, 0xC0, 0x50]

/-- The response of V5 (95_test_vectors 2.4). -/
def tempFrame : Frame := #v[0xAA, 0x80, 0x00, 0x00, 0xC8, 0x41, 0xE2, 0x82]

/-- Phase TX of the exchange of 95_test_vectors 2.2, `n` bytes sent. -/
def txState (n : Nat) : State :=
  { State.reset with
    phase := .tx, reqOp := 0x18, txbuf := disableFrame, txCnt := n
    emitted := disableFrame.toList.take n }

/-- Phase RX of the same exchange, `n` bytes of `echoFrame` received. -/
def rxState (n : Nat) : State :=
  { txState 8 with
    phase := .rx, rxCnt := n
    rxbuf := Vector.ofFn fun i => if i.val < n then echoFrame[i] else 0
    heard := echoFrame.toList.take n }

/-- Phase DONE of the same exchange with this result. -/
def doneState (r : Result) : State := { rxState 8 with phase := .done, result := r }

/-- The state with this script. -/
def withScript (xs : List Stimulus) (s : State) : State := { s with script := xs }

/-- Every word, of 64 bits, decodes to its instruction, which is well formed. -/
def decodesTo (rows : List (Nat × Instr)) : Bool :=
  rows.all fun r => decide (decodeTableWord 64 r.1 = some r.2) && WellFormed r.2

/-- Every op_code with a zero payload encodes to its frame. -/
def encodesZeros (rows : List (Byte × Frame)) : Bool :=
  rows.all fun r => decide (encodeFrame r.1 zeros = r.2)

/-- Every op_code and frame are judged so. -/
def judged (rows : List (Byte × Frame × Result)) : Bool :=
  rows.all fun r => decide (validate r.1 r.2.1 = r.2.2)

/-! ### Well-formedness -/

theorem test_wf_refuses_listed_encode : WellFormed (.encode 0x18 zeros 0x615D) = false := by decide
theorem test_wf_refuses_listed_decode : WellFormed (.decode 0xAA 0x80 zeros 0x45FA) = false := by
  decide
theorem test_wf_takes_unlisted_encode : WellFormed (.encode 0x80 zeros 0x45FA) = true := by decide
theorem test_wf_takes_unlisted_decode : WellFormed (.decode 0xAA 0x18 zeros 0x615D) = true := by
  decide

/-! ### Decoding: words written out from the frames of the spec -/

/-- 95_test_vectors 2.2, column 'request frame', rows HEARTBEAT to GET_I_COEF: the frames as words, byte 0 lowest. -/
theorem test_decode_requests_1 : decodesTo [
    (0x672A0000000000AA, .heartbeat zeros 0x672A),
    (0xCD7B0000000001AA, .getTemp zeros 0xCD7B),
    (0x23A90000000002AA, .getHumidity zeros 0x23A9),
    (0x89F80000000003AA, .getDewPoint zeros 0x89F8),
    (0xEE2C0000000004AA, .getSetpointOffset zeros 0xEE2C),
    (0x447D0000000005AA, .getPCoef zeros 0x447D),
    (0xAAAF0000000006AA, .getICoef zeros 0xAAAF)] = true := by decide +kernel

/-- 95_test_vectors 2.2, column 'response', rows HEARTBEAT to GET_I_COEF: the frames as words, byte 0 lowest. -/
theorem test_decode_responses_1 : decodesTo [
    (0x1F55000000007FAA, .heartbeatRsp 0xAA zeros 0x1F55),
    (0x45FA0000000080AA, .getTempRsp 0xAA zeros 0x45FA),
    (0xEFAB0000000081AA, .getHumidityRsp 0xAA zeros 0xEFAB),
    (0x01790000000082AA, .getDewPointRsp 0xAA zeros 0x0179),
    (0xAB280000000083AA, .getSetpointOffsetRsp 0xAA zeros 0xAB28),
    (0xCCFC0000000084AA, .getPCoefRsp 0xAA zeros 0xCCFC),
    (0x66AD0000000085AA, .getICoefRsp 0xAA zeros 0x66AD)] = true := by decide +kernel

/-- 95_test_vectors 2.2, column 'request frame', rows GET_D_COEF to SET_I_COEF: the frames as words, byte 0 lowest. -/
theorem test_decode_requests_2 : decodesTo [
    (0x00FE0000000007AA, .getDCoef zeros 0x00FE),
    (0x65070000000008AA, .getPowerLevel zeros 0x6507),
    (0xCF560000000009AA, .getHwVersion zeros 0xCF56),
    (0x2184000000000AAA, .getFwVersion zeros 0x2184),
    (0xEA760000000014AA, .setSetpointOffset zeros 0xEA76),
    (0x40270000000015AA, .setPCoef zeros 0x4027),
    (0xAEF50000000016AA, .setICoef zeros 0xAEF5)] = true := by decide +kernel

/-- 95_test_vectors 2.2, column 'response', rows GET_D_COEF to SET_I_COEF: the frames as words, byte 0 lowest. -/
theorem test_decode_responses_2 : decodesTo [
    (0x887F0000000086AA, .getDCoefRsp 0xAA zeros 0x887F),
    (0x222E0000000087AA, .getPowerLevelRsp 0xAA zeros 0x222E),
    (0x47D70000000088AA, .getHwVersionRsp 0xAA zeros 0x47D7),
    (0xED860000000089AA, .getFwVersionRsp 0xAA zeros 0xED86),
    (0xAF720000000093AA, .setSetpointOffsetRsp 0xAA zeros 0xAF72),
    (0xC8A60000000094AA, .setPCoefRsp 0xAA zeros 0xC8A6),
    (0x62F70000000095AA, .setICoefRsp 0xAA zeros 0x62F7)] = true := by decide +kernel

/-- 95_test_vectors 2.2, column 'request frame', rows SET_D_COEF to GET_TEC_CURRENT: the frames as words, byte 0 lowest. -/
theorem test_decode_requests_3 : decodesTo [
    (0x04A40000000017AA, .setDCoef zeros 0x04A4),
    (0x615D0000000018AA, .setEnable zeros 0x615D),
    (0x420A000000001DAA, .setPowerLevel zeros 0x420A),
    (0xACD8000000001EAA, .resetBoard zeros 0xACD8),
    (0x0689000000001FAA, .getBoardTemp zeros 0x0689),
    (0x814C0000000023AA, .getTecVoltage zeros 0x814C),
    (0xE6980000000024AA, .getTecCurrent zeros 0xE698)] = true := by decide +kernel

/-- 95_test_vectors 2.2, column 'response', rows SET_D_COEF to GET_TEC_CURRENT: the frames as words, byte 0 lowest. -/
theorem test_decode_responses_3 : decodesTo [
    (0x8C250000000096AA, .setDCoefRsp 0xAA zeros 0x8C25),
    (0x26740000000097AA, .setEnableRsp 0xAA zeros 0x2674),
    (0xCA8B000000009CAA, .setPowerLevelRsp 0xAA zeros 0xCA8B),
    (0x60DA000000009DAA, .resetBoardRsp 0xAA zeros 0x60DA),
    (0x8E08000000009EAA, .getBoardTempRsp 0xAA zeros 0x8E08),
    (0x09CD00000000A2AA, .getTecVoltageRsp 0xAA zeros 0x09CD),
    (0xA39C00000000A3AA, .getTecCurrentRsp 0xAA zeros 0xA39C)] = true := by decide +kernel

/-- 95_test_vectors 2.2: `Encode(op, [00 00 00 00])` for the 21 op_codes of R67. -/
theorem test_encode_listed : encodesZeros [
    (0x00, #v[0xAA, 0x00, 0x00, 0x00, 0x00, 0x00, 0x2A, 0x67]),
    (0x01, #v[0xAA, 0x01, 0x00, 0x00, 0x00, 0x00, 0x7B, 0xCD]),
    (0x02, #v[0xAA, 0x02, 0x00, 0x00, 0x00, 0x00, 0xA9, 0x23]),
    (0x03, #v[0xAA, 0x03, 0x00, 0x00, 0x00, 0x00, 0xF8, 0x89]),
    (0x04, #v[0xAA, 0x04, 0x00, 0x00, 0x00, 0x00, 0x2C, 0xEE]),
    (0x05, #v[0xAA, 0x05, 0x00, 0x00, 0x00, 0x00, 0x7D, 0x44]),
    (0x06, #v[0xAA, 0x06, 0x00, 0x00, 0x00, 0x00, 0xAF, 0xAA]),
    (0x07, #v[0xAA, 0x07, 0x00, 0x00, 0x00, 0x00, 0xFE, 0x00]),
    (0x08, #v[0xAA, 0x08, 0x00, 0x00, 0x00, 0x00, 0x07, 0x65]),
    (0x09, #v[0xAA, 0x09, 0x00, 0x00, 0x00, 0x00, 0x56, 0xCF]),
    (0x0A, #v[0xAA, 0x0A, 0x00, 0x00, 0x00, 0x00, 0x84, 0x21]),
    (0x14, #v[0xAA, 0x14, 0x00, 0x00, 0x00, 0x00, 0x76, 0xEA]),
    (0x15, #v[0xAA, 0x15, 0x00, 0x00, 0x00, 0x00, 0x27, 0x40]),
    (0x16, #v[0xAA, 0x16, 0x00, 0x00, 0x00, 0x00, 0xF5, 0xAE]),
    (0x17, #v[0xAA, 0x17, 0x00, 0x00, 0x00, 0x00, 0xA4, 0x04]),
    (0x18, #v[0xAA, 0x18, 0x00, 0x00, 0x00, 0x00, 0x5D, 0x61]),
    (0x1D, #v[0xAA, 0x1D, 0x00, 0x00, 0x00, 0x00, 0x0A, 0x42]),
    (0x1E, #v[0xAA, 0x1E, 0x00, 0x00, 0x00, 0x00, 0xD8, 0xAC]),
    (0x1F, #v[0xAA, 0x1F, 0x00, 0x00, 0x00, 0x00, 0x89, 0x06]),
    (0x23, #v[0xAA, 0x23, 0x00, 0x00, 0x00, 0x00, 0x4C, 0x81]),
    (0x24, #v[0xAA, 0x24, 0x00, 0x00, 0x00, 0x00, 0x98, 0xE6])] = true := by decide +kernel

/-- Bit by bit from R61 and R63 (E1): H `00010111`, L `11101001`, then the payload, the op_code 0x18
and the marker. -/
theorem test_decode_setEnable_bits : decodeTableWord 64
    0b00010111_11101001_00000000_00000000_00000000_00000001_00011000_10101010 =
    some (.setEnable #v[1, 0, 0, 0] 0x17E9) := by decide +kernel

/-- Bit by bit from R62 and R63 (C1). -/
theorem test_decode_getTempRsp_bits : decodeTableWord 64
    0b10000010_11100010_01000001_11001000_00000000_00000000_10000000_10101010 =
    some (.getTempRsp 0xAA #v[0, 0, 0xC8, 0x41] 0x82E2) := by decide +kernel

/-- Bit by bit from R63 (E5): the generic row of the request space. -/
theorem test_decode_encode_bits : decodeTableWord 64
    0b10100100_01001010_11111111_11111111_11111111_11111111_11111111_10101010 =
    some (.encode 0xFF #v[0xFF, 0xFF, 0xFF, 0xFF] 0xA44A) := by decide +kernel

/-- Bit by bit from R63 (C5): the generic row of the response space. -/
theorem test_decode_decode_bits : decodeTableWord 64
    0b00001000_00000111_00000110_00000101_00000100_00000011_00000010_00000001 =
    some (.decode 0x01 0x02 #v[3, 4, 5, 6] 0x0807) := by decide +kernel

/-- The `match` values of R75: the specific rows of both spaces, every open bit 0. -/
theorem test_decode_match_values :
    decodeTableWord 64 0x00000000000000AA = some (.heartbeat zeros 0) ∧
    decodeTableWord 64 0x0000000000007F00 = some (.heartbeatRsp 0 zeros 0) ∧
    decodeTableWord 64 0x00000000000018AA = some (.setEnable zeros 0) ∧
    decodeTableWord 64 0x0000000000009700 = some (.setEnableRsp 0 zeros 0) := by decide +kernel

/-- In its own direction a frame is read in its own space (R69, R74): the request loop-back of V8 is
an unlisted response, and a response op_code an unlisted request. -/
theorem test_decode_by_direction :
    decode .rx (.frame .response disableFrame) =
      .ok (some (.decode 0xAA 0x18 #v[1, 0, 0, 0] 0x17E9)) ∧
    decode .idle (.frame .request tempFrame) =
      .ok (some (.encode 0x80 #v[0, 0, 0xC8, 0x41] 0x82E2)) := by
  constructor <;> rfl

/-- A request frame has the marker 0xAA (R61). -/
theorem test_decode_rejects_marker :
    decodeBytes .request [0x55, 0, 0, 0, 0, 0, 0, 0] = .error (.notARequest 0x55) := by rfl

/-- Seven bytes are no frame (R60). -/
theorem test_decode_rejects_short :
    decodeBytes .response [0xAA, 0x80, 0, 0, 0, 0, 0xFA] = .error (.short 7) := by rfl

/-- Nine bytes are a frame and one byte (R60). -/
theorem test_decode_leaves_rest :
    decodeBytes .response [0xAA, 0x80, 0, 0, 0, 0, 0xFA, 0x45, 0x11] =
      .ok (.getTempRsp 0xAA zeros 0x45FA, [0x11]) := by rfl

/-- The events by their ports (R28), `cmd_payload = 0x42C80000` as in E8. -/
theorem test_select_events :
    select .idle { cmdValid := true, cmdOp := 0x1D, cmdPayload := 0x42C80000 } =
      some (.cmd 0x1D #v[0, 0, 0xC8, 0x42]) ∧
    select .tx { txReady := true } = some .txb ∧
    select .rx { rxValid := true, rxData := 0xC8 } = some (.rxb 0xC8) ∧
    select .done { rspReady := true } = some .take ∧
    select .rx { ioAbort := true } = some .abort ∧
    select .done { clear := true } = some .clear ∧
    select .tx { rst := true } = some .rst := by decide +kernel

/-- A10: in TX none of `TAKE`, `RXB`, `CMD` fires. -/
theorem test_select_A10 :
    select .tx { rspReady := true, rxValid := true, cmdValid := true } = none := by decide

/-- A11 and A12: `io_abort` before the byte, `clear` before the command. -/
theorem test_select_A11_A12 :
    select .rx { ioAbort := true, rxValid := true } = some .abort ∧
    select .idle { clear := true, cmdValid := true } = some .clear := by decide

/-- R195's last case, the model's choice (log 16): `ABORT` alone beside `rsp_ready` in TX and RX. -/
theorem test_select_abort_beside_take :
    select .tx { ioAbort := true, rspReady := true } = some .abort ∧
    select .rx { ioAbort := true, rspReady := true } = some .abort := by decide

/-! ### The function level (95_test_vectors 2.1 to 2.4) -/

theorem test_crcBit_B1_B2 : shownBy (.crcBit 0x0000 false) = some (.word 0x0000) ∧
    shownBy (.crcBit 0x0000 true) = some (.word 0x1021) := by decide +kernel
theorem test_crcBit_B3_B4 : shownBy (.crcBit 0x8000 false) = some (.word 0x1021) ∧
    shownBy (.crcBit 0x8000 true) = some (.word 0x0000) := by decide +kernel
theorem test_crcByte_Y1_Y3 : shownBy (.crcByte 0 0x00) = some (.word 0x0000) ∧
    shownBy (.crcByte 0 0x01) = some (.word 0x1021) ∧
    shownBy (.crcByte 0 0x80) = some (.word 0x9188) := by decide +kernel
theorem test_crcByte_Y4_Y6 : shownBy (.crcByte 0 0xFF) = some (.word 0x1EF0) ∧
    shownBy (.crcByte 0 0xAA) = some (.word 0x14A0) ∧
    shownBy (.crcByte 0x14A0 0x00) = some (.word 0xF2B5) := by decide +kernel
theorem test_crc16_K1 :
    crc16 [0x31, 0x32, 0x33, 0x34, 0x35, 0x36, 0x37, 0x38, 0x39] = 0x31C3 := by decide +kernel
theorem test_crc16_K2_K4 : crc16 [] = 0 ∧ crc16 [0] = 0 ∧ crc16 [0xAA] = 0x14A0 := by decide +kernel
theorem test_crc16_K13_K14 :
    crc16 [0xAA, 0x18, 1, 0, 0, 0, 0xE9, 0x17] = 0x3E1F ∧
    crc16 [0xAA, 0x18, 1, 0, 0, 0, 0x17, 0xE9] = 0 := by decide +kernel
theorem test_crc6_K6_K7 :
    shownBy (.crc6 #v[0xFF, 0xFF, 0xFF, 0xFF, 0xFF, 0xFF]) = some (.word 0x97DF) ∧
    shownBy (.crc6 #v[0xAA, 0, 0, 0, 0, 0]) = some (.word 0x672A) := by decide +kernel
theorem test_crc6_K8_K12 :
    shownBy (.crc6 #v[0xAA, 0x18, 1, 0, 0, 0]) = some (.word 0x17E9) ∧
    shownBy (.crc6 #v[0x00, 0x7F, 0, 0, 0, 0]) = some (.word 0x787F) := by decide +kernel
theorem test_crcCheck_H1_H2 :
    shownBy (.crcCheck #v[0xAA, 0x7F, 0x01, 0x00, 0x00, 0x00, 0xE1, 0x69]) = some (.bit true) ∧
    shownBy (.crcCheck #v[0xAA, 0x80, 0x00, 0x00, 0xC8, 0x41, 0x82, 0xE2]) = some (.bit false) := by decide +kernel
theorem test_crcCheck_H4_H5 :
    shownBy (.crcCheck #v[0xAA, 0x7F, 0x01, 0x00, 0x00, 0x00, 0xE1, 0x68]) = some (.bit false) ∧
    shownBy (.crcCheck #v[0xAA, 0x7F, 0x01, 0x00, 0x00, 0x00, 0xE0, 0x69]) = some (.bit false) := by decide +kernel
theorem test_cschk_H6_H7 :
    shownBy (.cschk #v[0xAA, 0x80, 0x00, 0x00, 0xC9, 0x41, 0xE2, 0x82]) = some (.bit false) ∧
    shownBy (.cschk #v[0xFF, 0xFF, 0xFF, 0xFF, 0xFF, 0xFF, 0xDF, 0x97]) = some (.bit true) := by decide +kernel
theorem test_encode_E2 : shownBy (.encode 0x7F #v[0xFF, 0xFF, 0xFF, 0xFF] 0) =
    some (.frame #v[0xAA, 0x7F, 0xFF, 0xFF, 0xFF, 0xFF, 0x9A, 0x86]) := by decide +kernel
theorem test_encode_E6 : shownBy (.encode 0xAA #v[0xFF, 0xFF, 0xFF, 0xFF] 0x1234) =
    some (.frame #v[0xAA, 0xAA, 0xFF, 0xFF, 0xFF, 0xFF, 0x2F, 0x92]) := by decide +kernel
theorem test_decode_C5 : shownBy (.decode 0x01 0x02 #v[3, 4, 5, 6] 0x0807) =
    some (.fields { marker := 0x01, opCode := 0x02, payload := #v[3, 4, 5, 6]
                    checksum := 0x0807 }) := by decide +kernel
theorem test_decodeFields_C1 : decodeFields tempFrame =
    { marker := 0xAA, opCode := 0x80, payload := #v[0, 0, 0xC8, 0x41], checksum := 0x82E2 } ∧
    packPayload (decodeFields tempFrame).payload = 0x41C80000 := by decide +kernel
theorem test_opchk_O1_O2 : shownBy (.opchk 0x18 0x97) = some (.bit true) ∧
    shownBy (.opchk 0x18 0x18) = some (.bit false) := by decide +kernel
theorem test_opchk_O3_O6 : shownBy (.opchk 0x00 0x80) = some (.bit false) ∧
    shownBy (.opchk 0x81 0x00) = some (.bit true) := by decide +kernel
theorem test_validate_V4 : shownBy (.validate 0x02 #v[0xAA, 0x80, 0x00, 0x00, 0xC9, 0x41, 0xE2, 0x82]) =
    some (.verdict .protocolMismatch) := by decide +kernel
theorem test_validate_V6 : shownBy (.validate 0x01 #v[0xAA, 0x80, 0x00, 0x00, 0xC9, 0x41, 0xE2, 0x82]) =
    some (.verdict .checksumError) := by decide +kernel

/-- 95_test_vectors 2.4, V1 to V9. -/
theorem test_validate_V1_V9 : judged [
    (0x00, #v[0xAA, 0x7F, 0x01, 0x00, 0x00, 0x00, 0xE1, 0x69], .ok),
    (0x00, #v[0xAA, 0x7F, 0x03, 0x00, 0x00, 0x00, 0x89, 0x84], .ok),
    (0x02, #v[0xAA, 0x80, 0x00, 0x00, 0xC8, 0x41, 0xE2, 0x82], .protocolMismatch),
    (0x02, #v[0xAA, 0x80, 0x00, 0x00, 0xC9, 0x41, 0xE2, 0x82], .protocolMismatch),
    (0x01, #v[0xAA, 0x80, 0x00, 0x00, 0xC8, 0x41, 0xE2, 0x82], .ok),
    (0x01, #v[0xAA, 0x80, 0x00, 0x00, 0xC9, 0x41, 0xE2, 0x82], .checksumError),
    (0x01, #v[0xAA, 0x80, 0x00, 0x00, 0xC8, 0x41, 0x82, 0xE2], .checksumError),
    (0x18, #v[0xAA, 0x18, 0x01, 0x00, 0x00, 0x00, 0xE9, 0x17], .protocolMismatch),
    (0x18, #v[0xAA, 0x98, 0x01, 0x00, 0x00, 0x00, 0xC0, 0x50], .protocolMismatch)] = true := by decide +kernel

/-- 95_test_vectors 2.4, V10 to V17. -/
theorem test_validate_V10_V17 : judged [
    (0x00, #v[0x55, 0x7F, 0x01, 0x00, 0x00, 0x00, 0x5E, 0x3D], .ok),
    (0x81, #v[0x00, 0x00, 0x00, 0x00, 0x00, 0x00, 0x00, 0x00], .ok),
    (0x00, #v[0x00, 0x00, 0x00, 0x00, 0x00, 0x00, 0x00, 0x00], .protocolMismatch),
    (0x80, #v[0xAA, 0xFF, 0x00, 0x00, 0x00, 0x00, 0x85, 0x3D], .ok),
    (0xFF, #v[0xAA, 0x7E, 0x00, 0x00, 0x00, 0x00, 0x00, 0x00], .checksumError),
    (0x00, #v[0xFF, 0xFF, 0xFF, 0xFF, 0xFF, 0xFF, 0xFF, 0xFF], .protocolMismatch),
    (0x80, #v[0xFF, 0xFF, 0xFF, 0xFF, 0xFF, 0xFF, 0xDF, 0x97], .ok),
    (0x00, #v[0xAA, 0x80, 0x00, 0x00, 0x00, 0x00, 0xFA, 0x45], .protocolMismatch)] = true := by decide +kernel

/-! ### The events (95_test_vectors 2.2, 2.3, 2.5) -/

/-- Step 1 of 2.2. -/
theorem test_cmd_step_1 : nextOf (exec (.cmd 0x18 #v[1, 0, 0, 0]) State.reset) =
    some (txState 0) := by decide +kernel

/-- M1: a second command is not accepted. -/
theorem test_cmd_M1 : nextOf (exec (.cmd 0x00 zeros) (txState 0)) = some (txState 0) := by
  decide +kernel

/-- Step 2 of 2.2. -/
theorem test_txb_step_2 : nextOf (exec .txb (txState 0)) = some (txState 1) := by decide +kernel

/-- Step 9 of 2.2. -/
theorem test_txb_step_9 : nextOf (exec .txb (txState 7)) = some (rxState 0) := by decide +kernel

/-- Step 16 of 2.3. -/
theorem test_rxb_step_16 : nextOf (exec (.rxb 0xC0) (rxState 6)) = some (rxState 7) := by
  decide +kernel

/-- Step 17 of 2.3. -/
theorem test_rxb_step_17 : nextOf (exec (.rxb 0x50) (rxState 7)) = some (doneState .ok) := by
  decide +kernel

/-- Step 18 of 2.3. -/
theorem test_take_step_18 : (nextOf (exec .take (doneState .ok))).map (fun t => (t.phase, t.taken)) =
    some (.idle, [⟨.ok, ⟨0xAA, 0x97, #v[1, 0, 0, 0], 0x50C0⟩⟩]) := by decide +kernel

/-- A9: IDLE after the error is taken. -/
theorem test_take_A9 : (nextOf (exec .take (doneState .ioError))).map (·.phase) = some .idle := by
  decide +kernel

/-- A2. -/
theorem test_abort_A2 : (nextOf (exec .abort (rxState 7))).map
    (fun t => (t.phase, t.result, t.rxCnt)) = some (.done, .ioError, 7) := by decide +kernel

/-- A4 and A5: no change. -/
theorem test_abort_A4_A5 : nextOf (exec .abort State.reset) = some State.reset ∧
    nextOf (exec .abort (doneState .ok)) = some (doneState .ok) := by decide +kernel

/-- A6. -/
theorem test_clear_A6 : (nextOf (exec .clear (rxState 5))).map
    (fun t => (t.phase, t.txCnt, t.rxCnt, t.taken)) = some (.idle, 0, 0, []) := by decide +kernel

/-- A8. -/
theorem test_rst_A8 : (nextOf (exec .rst (rxState 5))).map
    (fun t => (t.phase, t.txCnt, t.rxCnt, t.taken)) = some (.idle, 0, 0, []) := by decide +kernel

/-- The first event of P2's `SEND`. -/
theorem test_send_P2 : nextOf (exec (.send 0x18 #v[1, 0, 0, 0]) State.reset) =
    some { txState 0 with inSend := true } := by decide +kernel

/-- The REQ rows: each of the 21 loads its own frame of 95_test_vectors 2.2 (the checksums are those
of `test_encode_listed`). -/
theorem test_requests_load : (listedOps.all fun o =>
    decide ((nextOf (exec (requestRow o zeros 0) State.reset)).map (·.txbuf) =
      some (encodeFrame (opCode o) zeros))) = true := by decide +kernel

/-- The RSP rows: each of the 21 stores its marker first and brings its own op_code next. -/
theorem test_responses_arrive : (listedOps.all fun o =>
    decide ((nextOf (exec (responseRow o 0x55 zeros 0x1234) (rxState 0))).map
      (fun t => (t.rxbuf[0], t.rxCnt, t.script.head?)) =
      some (0x55, 1, some (.line (.rxb (opCode o + 127)))))) = true := by decide +kernel

/-- The ports in step 8 of 2.2 and step 9: `tx_data` 17, then `rx_ready`. -/
theorem test_outputs_steps_8_9 : (outputs (txState 7)).txData = 0x17 ∧
    (outputs (rxState 0)).txValid = false ∧ (outputs (rxState 0)).rxReady = true := by
  decide +kernel

/-- R29, R160: the result of step 17 on the ports. -/
theorem test_outputs_done : (outputs (doneState .ok)).rspValid = true ∧
    (outputs (doneState .ok)).rspStatus = 0 ∧ (outputs (doneState .ok)).rspOp = 0x97 ∧
    (outputs (doneState .ok)).rspPayload = 0x00000001 ∧
    (outputs (doneState .ioError)).rspStatus = 3 := by decide +kernel

/-! ### The client sequences (R153 to R157) -/

/-- P1: a heartbeat answered with raw value 0b10 is followed by `RESET_BOARD`, with 0b1 by nothing. -/
theorem test_client_open :
    openFollowUp { status := .ok, fields := decodeFields #v[0xAA, 0x7F, 0x02, 0x00, 0x00, 0x00, 0x3D, 0xF2] } =
      [{ op := .resetBoard, payload := zeros }] ∧
    openFollowUp { status := .ok, fields := decodeFields #v[0xAA, 0x7F, 0x01, 0x00, 0x00, 0x00, 0xE1, 0x69] } =
      [] := by decide +kernel

/-- An exchange whose result, with this status and the fields of V5, was taken. -/
def endOf (r : Result) : ExchangeEnd := .taken ⟨r, decodeFields tempFrame⟩

/-- P7: with the third answer wrong, three of the seven reads are issued. -/
theorem test_client_monitor :
    (issued monitorCommands
      [endOf .ok, endOf .ok, endOf .checksumError]).map (·.op) =
      [.getTemp, .getBoardTemp, .getHumidity] := by decide +kernel

/-! ### The step -/

/-- A placed word is the next step's instruction (E1's word, in IDLE). -/
theorem test_step_runs_placed_word :
    (nextOf (step (State.reset.withFetchWord 64 0x17E90000000118AA))).map (·.txbuf) =
      some disableFrame := by decide +kernel

/-- Nothing offered: the block waits (R190). -/
theorem test_step_waits : nextOf (step (rxState 3)) = some { rxState 3 with draws := 1 } := by
  decide +kernel

/-! ### Witnesses: states and operands that meet the hypotheses of the statements -/

/-- `Crc16IsLinear`: two messages of one length (K8, K9, K10). -/
theorem witness_crc16_linear : ([0xAA, 0x18, 1, 0, 0, 0] : List Byte).length =
    ([0, 0, 0, 0, 0, 1] : List Byte).length ∧
    crc16 [0xAA, 0x18, 1, 0, 0, 1] = 0x07C8 := by decide +kernel

/-- `SingleBitErrorIsCaught`: the frame of H9, and its bits 0, 7, 8, 15, 16 and 63. -/
theorem witness_singleBit : validate 0x01 tempFrame = .ok ∧
    ([0, 7, 8, 15, 16, 63].map fun i =>
      validate 0x01 (frameOfWord (frameWord tempFrame ^^^ BitVec.twoPow 64 i))) =
    [.checksumError, .checksumError, .protocolMismatch, .protocolMismatch, .checksumError,
     .checksumError] := by decide +kernel

/-- `CmdStartsExchange`, `SendOpensExchange`, `RequestRowsSend` (rows of the list): IDLE, and a phase that is not. -/
theorem witness_command_phases : State.reset.phase = .idle ∧ (txState 0).phase ≠ .idle := by decide

/-- `TxbEmitsNextByte`: the counts 0, 6, 7 and 8 in TX, and a phase that is not TX. -/
theorem witness_txb : (txState 0).txCnt < 7 ∧ (txState 6).txCnt < 7 ∧ (txState 7).txCnt = 7 ∧
    8 ≤ (txState 8).txCnt ∧ (txState 8).phase = .tx ∧ State.reset.phase ≠ .tx ∧
    nextOf (exec .txb (txState 6)) = some (txState 7) ∧
    faultOf (exec .txb (txState 8)) = some (.txOffset 8) ∧
    nextOf (exec .txb State.reset) = some State.reset := by decide +kernel

/-- `RxbStoresNextByte`: the counts 0, 6, 7 and 8 in RX, and a phase that is not RX. -/
theorem witness_rxb : (rxState 0).rxCnt < 7 ∧ (rxState 6).rxCnt < 7 ∧ (rxState 7).rxCnt = 7 ∧
    8 ≤ (rxState 8).rxCnt ∧ (rxState 8).phase = .rx ∧ State.reset.phase ≠ .rx ∧
    nextOf (exec (.rxb 0xAA) (rxState 0)) = some (rxState 1) ∧
    faultOf (exec (.rxb 0) (rxState 8)) = some (.rxOffset 8) ∧
    nextOf (exec (.rxb 0) State.reset) = some State.reset := by decide +kernel

/-- `TakeDeliversResult`: DONE with a verdict, DONE with IO_ERROR, and a phase that is not DONE. -/
theorem witness_take : (doneState .ok).phase = .done ∧ (doneState .ok).result ≠ .ioError ∧
    (doneState .ioError).phase = .done ∧ State.reset.phase ≠ .done ∧
    nextOf (exec .take State.reset) = some State.reset := by decide +kernel

/-- `AbortEndsWithIoError`: the four phases. -/
theorem witness_abort : (txState 3).phase = .tx ∧ (rxState 0).phase = .rx ∧
    State.reset.phase = .idle ∧ (doneState .ok).phase = .done := by decide

/-- `ResponseRowsArrive`: the counts 6 and 7 in RX, and a phase that is not RX. -/
theorem witness_response_rows : (rxState 6).phase = .rx ∧ (rxState 6).rxCnt < 7 ∧
    (rxState 7).phase = .rx ∧ (rxState 7).rxCnt = 7 ∧ (doneState .ok).phase ≠ .rx ∧
    (nextOf (exec (responseRow .getTemp 0x50 zeros 0) (rxState 7))).map (·.phase) = some .done ∧
    (nextOf (exec (responseRow .getTemp 0x50 zeros 0) (doneState .ok))).map (·.heard) =
      some (doneState .ok).heard := by decide +kernel

/-- `ResponseFrameIsJudged`: the response of 2.3 offered at the start of the reception. -/
theorem witness_response_frame :
    let s := withScript [.frame .response echoFrame] (rxState 0)
    s.phase = .rx ∧ s.rxCnt = 0 ∧ s.script = .frame .response echoFrame :: [] ∧
    echoFrame = #v[0xAA, opCode .setEnable + 127, 1, 0, 0, 0,
      (0x50C0 : Half).extractLsb' 0 8, (0x50C0 : Half).extractLsb' 8 8] := by decide +kernel

/-- `StepRunsDecoded`: a byte on the ports in RX; and a `CLEAR` in DONE within a call of `SEND`. -/
theorem witness_step_runs :
    decode (rxState 0).phase (.ports { rxValid := true, rxData := 0xAA }) =
      .ok (some (.rxb 0xAA)) ∧
    decode (doneState .ok).phase (.line .clear) = .ok (some .clear) ∧
    resets (.line .clear) = true := by
  refine ⟨rfl, rfl, rfl⟩

/-- `StepWaitsUnchanged`: an empty script, and a byte offered in TX. -/
theorem witness_step_waits : (rxState 3).script = [] ∧ (rxState 3).inSend = false ∧
    decode (txState 0).phase (.ports { rxValid := true }) = .ok none := by
  refine ⟨rfl, rfl, rfl⟩

/-- `StepReturnsFromSend`: DONE within a call of `SEND`, nothing offered. -/
theorem witness_step_returns :
    let s := { doneState .ok with inSend := true }
    s.inSend = true ∧ s.phase = .done ∧ s.script = [] ∧
    (nextOf (step s)).map (·.inSend) = some false := by decide +kernel

/-- `StepRefusesOnlyBadMarker`: a step that refuses, at the marker next to 0xAA. -/
theorem witness_step_refuses :
    refusedOf (step (withScript [.frame .request #v[0xAB, 0x18, 0x00, 0x00, 0x00, 0x00, 0x00, 0x00]] State.reset)) =
      some (.notARequest 0xAB) := by decide +kernel

/-- `PlacedWordRunsNext`: a word that decodes. -/
theorem witness_placed_word : decodeTableWord 64 0x672A0000000000AA =
    some (.heartbeat zeros 0x672A) := by decide +kernel

/-- `StepKeepsInv`, `NoFaultUnderInv`: the last byte of the request is about to leave. -/
theorem witness_inv_tx : Inv (txState 7) ∧
    nextOf (step (withScript [.line .txb] (txState 7))) = some { rxState 0 with draws := 1 } := by
  refine ⟨⟨?_, ?_, ?_, ?_, ?_⟩, ?_⟩
  · unfold CountsMatchPhase; decide +kernel
  · unfold RequestIsEncoded; decide +kernel
  · unfold ResultIsVerdict; decide +kernel
  · unfold BytesInOrder; decide +kernel
  all_goals decide +kernel

/-- `StepKeepsInv`, `NoFaultUnderInv`: the last byte of the response is about to come. -/
theorem witness_inv_rx : Inv (rxState 7) ∧
    nextOf (step (withScript [.line (.rxb 0x50)] (rxState 7))) =
      some { doneState .ok with draws := 1 } := by
  refine ⟨⟨?_, ?_, ?_, ?_, ?_⟩, ?_⟩
  · unfold CountsMatchPhase; decide +kernel
  · unfold RequestIsEncoded; decide +kernel
  · unfold ResultIsVerdict; decide +kernel
  · unfold BytesInOrder; decide +kernel
  all_goals decide +kernel

/-- `PhaseTransitionsAreR21`: one step for each of its six ways. -/
theorem witness_phase_transitions :
    [(exec (.send 0x18 zeros) State.reset), (exec .txb (txState 7)), (exec (.rxb 0x50) (rxState 7)),
     (exec .abort (txState 3)), (exec .take (doneState .ok)), (exec .rst (rxState 0))].map
      (fun o => (nextOf o).map (·.phase)) =
    [some .tx, some .rx, some .done, some .done, some .idle, some .idle] := by decide +kernel

/-- `ResultWrittenOnlyAtEnd`: the eighth byte and `ABORT` change the result of these states. -/
theorem witness_result_written :
    (nextOf (exec (.rxb 0x51) (rxState 7))).map (·.result) = some .checksumError ∧
    (nextOf (exec .abort (rxState 7))).map (·.result) = some .ioError ∧
    (rxState 7).result = .ok := by decide +kernel

/-- `ResultWrittenOnlyAtEnd`: a state whose result `RST` changes, whatever the free value is. -/
theorem witness_result_released : ∃ s t : State, exec .rst s = .next t ∧ t.result ≠ s.result := by
  by_cases h : resultOfCode (Config.freeResultCode 0) = .ok
  · exact ⟨{ State.reset with result := .ioError }, _, rfl, by simp [State.reset, h]⟩
  · exact ⟨State.reset, _, rfl, h⟩

/-- `RequestIsImmutable`, `StepMovesAtMostOneItem`: a step inside an exchange for each kind of item,
and one for none. -/
theorem witness_step_items :
    [step (withScript [.line .abort] (txState 0)), step (withScript [.line .txb] (txState 0)),
     step (withScript [.line (.rxb 0xAA)] (rxState 0)),
     step (withScript [.line .take] (doneState .ok))].map
      (fun o => (nextOf o).map fun t =>
        (t.phase, t.emitted.length, t.heard.length, t.taken.length)) =
    [some (.done, 0, 0, 0), some (.tx, 1, 0, 0), some (.rx, 8, 1, 0), some (.idle, 8, 8, 1)] := by
  decide +kernel

/-- `ExchangeRunsToCompletion`: the exchange of 2.2 and 2.3 from IDLE, nothing after it. -/
theorem witness_exchange :
    let s := withScript (.line (.send 0x18 #v[1, 0, 0, 0]) :: (exchangeLines echoFrame ++ []))
      State.reset
    s.phase = .idle ∧ (exchangeLines echoFrame).length = 16 ∧
    (∀ (x : Stimulus) (rest : List Stimulus), ([] : List Stimulus) = x :: rest →
      resets x = false) := by
  refine ⟨rfl, rfl, ?_⟩
  intro x rest h
  cases h

/-- `ExchangeEndToEnd`: in the run of that exchange, the state after 17 steps is DONE and nothing has
been taken. -/
theorem witness_end_to_end :
    ((exchangeLines echoFrame).all undisturbing = true) ∧
    (nextOf (run (16 + 1) (withScript (.line (.send 0x18 #v[1, 0, 0, 0]) :: exchangeLines echoFrame)
      State.reset))).map (fun u => (u.phase, u.taken)) = some (.done, []) := by decide +kernel

/-- `AbortedSendReturnsIoError`: an abort in TX and in RX within a call of `SEND`. -/
theorem witness_aborted_send :
    let s := withScript [.line .abort] { txState 5 with inSend := true }
    let u := withScript [.line .abort] { rxState 3 with inSend := true }
    s.phase = .tx ∧ s.inSend = true ∧ u.phase = .rx ∧ u.inSend = true ∧
    (nextOf (run 2 u)).map (fun t => (t.phase, t.taken.map (·.status))) =
      some (.idle, [.ioError]) := by decide +kernel

/-- `UnwrittenRegistersAreNotRead`: two states that differ in a register nothing has written, in IDLE
and in the middle of a reception. -/
theorem witness_unwritten :
    AgreeWhereWritten State.reset { State.reset with reqOp := 0x18 } ∧
    State.reset ≠ { State.reset with reqOp := 0x18 } ∧
    AgreeWhereWritten (rxState 3) { rxState 3 with rxbuf := echoFrame } ∧
    rxState 3 ≠ { rxState 3 with rxbuf := echoFrame } := by
  refine ⟨⟨?_, ?_, ?_, ?_, ?_, ?_⟩, ?_, ⟨?_, ?_, ?_, ?_, ?_, ?_⟩, ?_⟩
  all_goals decide +kernel

/-- `ValidOutputsShowRegisters`: DONE with each of the four results, and TX at the last byte. -/
theorem witness_outputs :
    ([Result.ok, .protocolMismatch, .checksumError, .ioError].map fun r =>
      (outputs (doneState r)).rspStatus) = [0, 1, 2, 3] ∧
    (doneState .checksumError).phase = .done ∧ (doneState .checksumError).result ≠ .ioError ∧
    (txState 7).txCnt < 8 ∧ (txState 7).phase = .tx := by decide +kernel

/-- `PortPriority`: every input at once; all but `rst`; all but `rst` and `clear`, in each phase;
and no input. -/
theorem witness_priority :
    let p : Pins := { rst := true, clear := true, ioAbort := true, cmdValid := true, txReady := true
                      rxValid := true, rspReady := true }
    let q := { p with rst := false }
    let r := { q with clear := false }
    select .idle p = some .rst ∧ select .idle q = some .clear ∧
    select .idle r = some (.cmd 0 zeros) ∧ select .tx r = some .abort ∧
    select .rx r = some .abort ∧ select .done r = some .take ∧
    select .tx { r with ioAbort := false } = some .txb ∧
    select .rx { r with ioAbort := false } = some (.rxb 0) ∧
    handshake .tx {} = none ∧ select .tx {} = none := by decide +kernel

/-- `CommandFromPorts`: the command of E8 on the ports in IDLE. -/
theorem witness_command_ports :
    let p : Pins := { cmdValid := true, cmdOp := 0x1D, cmdPayload := 0x42C80000 }
    let s := withScript [.ports p] State.reset
    s.script = .ports p :: [] ∧ s.phase = .idle ∧ p.rst = false ∧ p.clear = false ∧
    p.cmdValid = true ∧
    (nextOf (step s)).map (·.txbuf) = some #v[0xAA, 0x1D, 0x00, 0x00, 0xC8, 0x42, 0x71, 0xB5] := by decide +kernel

/-- `DecodeOfEncode`: one well-formed enabled instruction of each format. -/
theorem witness_decode_of_encode :
    [(Phase.idle, Instr.setEnable #v[1, 0, 0, 0] 0x17E9), (.rx, .getTempRsp 0xAA zeros 0x45FA),
     (.idle, .encode 0x80 zeros 0x45FA), (.rx, .decode 0xAA 0x18 zeros 0x615D),
     (.done, .opchk 0x18 0x97), (.idle, .cmd 0x18 zeros), (.tx, .txb), (.rx, .rxb 0x50),
     (.done, .take), (.idle, .abort), (.tx, .clear), (.rx, .rst)].all
      (fun x => WellFormed x.2 && enabledIn x.1 x.2) = true := by decide +kernel

/-- `EncodeOfDecode`, `EveryOpCodeDecodes`: a frame with marker 0xAA that decodes in both spaces. -/
theorem witness_frame_decodes : tempFrame[0] = 0xAA ∧
    decodeFrame .response tempFrame = .ok (.getTempRsp 0xAA #v[0, 0, 0xC8, 0x41] 0x82E2) ∧
    decodeFrame .request tempFrame = .ok (.encode 0x80 #v[0, 0, 0xC8, 0x41] 0x82E2) := by
  refine ⟨?_, rfl, rfl⟩
  decide

/-- `ClientStopsAtFirstError`: all exchanges OK, as many as commands and one fewer; the first that is
not OK in the first, in the last place and behind the last command; and one abandoned (R197). -/
theorem witness_client :
    outcomeOf disableCommands [endOf .ok] = .finished ∧
    outcomeOf disableCommands [] = .waiting ∧
    (issued monitorCommands [endOf .ioError]).length = 1 ∧
    outcomeOf monitorCommands [endOf .ioError] = .failed .ioError ∧
    (issued monitorCommands (List.replicate 6 (endOf .ok) ++ [endOf .ioError])).length = 7 ∧
    outcomeOf monitorCommands (List.replicate 6 (endOf .ok) ++ [endOf .ioError]) =
      .failed .ioError ∧
    outcomeOf disableCommands [endOf .ok, endOf .ioError] = .finished ∧
    outcomeOf disableCommands [.abandoned] = .abandoned ∧
    programFinished (outcomeOf disableCommands [.abandoned]) = true ∧
    programFinished (outcomeOf disableCommands []) = false := by
  decide +kernel

/-- `OpenHeartbeatsThenResets`: a failed heartbeat, an initialised board (P1, variant) and one that
is not (P1), answered and not. -/
theorem witness_open :
    let up : HostResult := ⟨.ok, decodeFields #v[0xAA, 0x7F, 0x01, 0x00, 0x00, 0x00, 0xE1, 0x69]⟩
    let down : HostResult := ⟨.ok, decodeFields #v[0xAA, 0x7F, 0x02, 0x00, 0x00, 0x00, 0x3D, 0xF2]⟩
    openOutcome [endOf .checksumError] = .failed .checksumError ∧
    up.status = .ok ∧ up.fields.payload[0].getLsbD 0 = true ∧ openOutcome [.taken up] = .finished ∧
    down.status = .ok ∧ down.fields.payload[0].getLsbD 0 = false ∧
    (openIssued [.taken down]).map (·.op) = [.heartbeat, .resetBoard] ∧
    openOutcome [.taken down, endOf .ok] = .finished ∧
    openOutcome [.taken down, endOf .ioError] = .failed .ioError ∧
    openOutcome [.taken down, .abandoned] = .abandoned := by decide +kernel

/-- `DisableFrameIsFixed`: `disable()` has a command, and an idle state. -/
theorem witness_disable : disableCommands.length = 1 ∧ State.reset.phase = .idle := by decide

/-- `ExchangeFinishesByTakeClearRst`: the result taken in DONE, the exchange of A6 cleared and that of
A8 reset, and a step inside an exchange. -/
theorem witness_exchange_end :
    (nextOf (exec .take (doneState .checksumError))).map
      (fun t => (exchangeEnd (doneState .checksumError) t).map endedOk) = some (some false) ∧
    (nextOf (exec .take (doneState .ok))).map
      (fun t => (exchangeEnd (doneState .ok) t).map endedOk) = some (some true) ∧
    (nextOf (exec .clear (rxState 5))).map (exchangeEnd (rxState 5)) = some (some .abandoned) ∧
    (nextOf (exec .rst (rxState 5))).map (exchangeEnd (rxState 5)) = some (some .abandoned) ∧
    (nextOf (exec (.rxb 0) (rxState 5))).map (exchangeEnd (rxState 5)) = some none := by
  decide +kernel

end Sys2Proof.Machine
end

section
/-! PROOFS for the scope rules (spec/00_scope.md R12, R46): which operation a step runs, and how much of
what passes the ports one step can record. -/

namespace Sys2Proof.Machine

/-! ### The operation a step runs -/

/-- The host in `SEND` takes its result exactly when it is in the call and the phase is DONE (R119). -/
theorem returning_iff (s : State) : returning s = true ↔ s.inSend = true ∧ s.phase = .done := by
  simp [returning]

/-- The head of the script is read unless a result is to be taken first, which only a `RST` or a
`CLEAR` precedes (R195). -/
theorem fetch_eq_readStimulus {s : State} {x : Stimulus} {rest : List Stimulus}
    (hs : s.script = x :: rest) (hx : returning s = true → resets x = true) :
    fetch s = readStimulus x rest s := by
  unfold fetch
  rw [hs]
  cases hr : returning s with
  | false => simp
  | true => simp [hx hr]

theorem readStimulus_of_decode {s : State} {x : Stimulus} {i : Instr} (rest : List Stimulus)
    (hd : decode s.phase x = .ok (some i)) : readStimulus x rest s = .run i (consume rest s) := by
  simp only [readStimulus, hd]

theorem step_of_fetch_run {s t : State} {i : Instr} (hf : fetch s = .run i t) :
    step s = exec i t := by
  simp only [step, hf]

/-- Settles O31: nothing is taken before the script's head, so the fetch is its decoding. -/
theorem stepRunsDecoded : Obligations.StepRunsDecoded := by
  intro s x rest i hs hx hd
  have hr : returning s = true → resets x = true := fun h =>
    let ⟨hsend, hdone⟩ := (returning_iff s).mp h
    hx hsend hdone
  have hf : fetch s = .run i (consume rest s) := by
    rw [fetch_eq_readStimulus hs hr, readStimulus_of_decode rest hd]
  exact step_of_fetch_run hf

/-! ### What one step records -/

/-- From `s` to `t` nothing is recorded, or one byte sent, or one byte stored, or one result taken, at
the end of its record (R12, R46; log 19). -/
def RecordsAtMostOneItem (s t : State) : Prop :=
  (t.emitted = s.emitted ∧ t.heard = s.heard ∧ t.taken = s.taken) ∨
  (∃ b, t.emitted = s.emitted ++ [b] ∧ t.heard = s.heard ∧ t.taken = s.taken) ∨
  (∃ b, t.emitted = s.emitted ∧ t.heard = s.heard ++ [b] ∧ t.taken = s.taken) ∨
  (∃ r, t.emitted = s.emitted ∧ t.heard = s.heard ∧ t.taken = s.taken ++ [r])

theorem recordsAtMostOneItem_of_same {s t : State} (he : t.emitted = s.emitted)
    (hh : t.heard = s.heard) (ht : t.taken = s.taken) : RecordsAtMostOneItem s t :=
  .inl ⟨he, hh, ht⟩

theorem recordsAtMostOneItem_advanceTx (n : Nat) (b : Byte) (s : State) :
    RecordsAtMostOneItem s (advanceTx n b s) :=
  .inr (.inl ⟨b, advanceTx_emitted n b s, advanceTx_heard n b s, advanceTx_taken n b s⟩)

theorem recordsAtMostOneItem_advanceRx (n : Nat) (b : Byte) (buf : Frame) (s : State) :
    RecordsAtMostOneItem s (advanceRx n b buf s) :=
  .inr (.inr (.inl ⟨b, advanceRx_emitted n b buf s, advanceRx_heard n b buf s,
    advanceRx_taken n b buf s⟩))

theorem recordsAtMostOneItem_returnToIdle (s : State) : RecordsAtMostOneItem s (returnToIdle s) :=
  .inr (.inr (.inr ⟨hostResult s, returnToIdle_emitted s, returnToIdle_heard s,
    returnToIdle_taken s⟩))

/-- Every operation records at most one item; only the three shared updates of a byte sent, a byte
stored and a result taken record any. -/
theorem exec_recordsAtMostOneItem {i : Instr} {s t : State} (h : exec i s = .next t) :
    RecordsAtMostOneItem s t := by
  rcases exec_next i s t h with rfl | ⟨a, rfl⟩ | ⟨_, op, p, b, rfl, _⟩ | ⟨_, _, rfl⟩ | ⟨sc, rfl⟩ |
    ⟨_, b, sc, _, rfl⟩ | ⟨_, rfl⟩ | ⟨_, rfl⟩ | rfl
  · exact recordsAtMostOneItem_of_same rfl rfl rfl
  · exact recordsAtMostOneItem_of_same rfl rfl rfl
  · exact recordsAtMostOneItem_of_same rfl rfl rfl
  · exact recordsAtMostOneItem_advanceTx _ _ s
  · exact recordsAtMostOneItem_of_same rfl rfl rfl
  · exact recordsAtMostOneItem_advanceRx _ b _ s
  · exact recordsAtMostOneItem_returnToIdle s
  · exact recordsAtMostOneItem_of_same rfl rfl rfl
  · exact recordsAtMostOneItem_of_same rfl rfl rfl

/-- Settles O43: reading the script and numbering the free values record nothing, and the one operation
a step runs records at most one item. -/
theorem stepMovesAtMostOneItem : Obligations.StepMovesAtMostOneItem := by
  intro s t h
  rcases step_next s t h with (rfl | ⟨rest, rfl⟩) | ⟨i, u, hi, rfl | ⟨rest, rfl⟩⟩
  · exact recordsAtMostOneItem_of_same rfl rfl rfl
  · exact recordsAtMostOneItem_of_same rfl rfl rfl
  · simpa [RecordsAtMostOneItem] using exec_recordsAtMostOneItem hi
  · simpa [RecordsAtMostOneItem] using exec_recordsAtMostOneItem hi

end Sys2Proof.Machine
end

section
/-! PROOFS that the invariant of the exchange holds after reset and is kept by every step
(spec/10_state.md R20 to R27, R37). -/

namespace Sys2Proof.Machine

/-! ### The bytes sent and received, one byte on -/

/-- One more byte of a buffer is on the record once that byte is recorded (R48). -/
theorem take_succ_suffix_append {f : Frame} {n : Nat} (h : n < 8) {record : List Byte}
    (hr : f.toList.take n <:+ record) : f.toList.take (n + 1) <:+ record ++ [f[n]] := by
  have hn : n < f.toList.length := by simpa using h
  have hb : f.toList[n] = f[n] := by simp
  rw [List.take_succ_eq_append_getElem hn, hb]
  exact List.suffix_append_self_iff.mpr hr

/-- A byte stored at offset `n` leaves the bytes below `n` (R25, R100). -/
theorem toList_set_take (f : Frame) {n : Nat} (h : n < 8) (b : Byte) :
    (f.set n b).toList.take n = f.toList.take n := by
  rw [Vector.toList_set, List.take_set_of_le (Nat.le_refl n)]

/-- The payload of an encoded request is read back from its frame (R90). -/
@[simp] theorem framePayload_encodeFrame (op : OpCode) (p : Payload) :
    framePayload (encodeFrame op p) = p := framePayload_frameOfFields _

/-! ### What each update does to the invariant -/

theorem inv_reset : Inv State.reset := by
  refine ⟨⟨?_, ?_, ?_, ?_⟩, ?_, ?_, ⟨?_, ?_⟩, ?_⟩
  all_goals simp [State.reset, RequestIsEncoded, ResultIsVerdict]

theorem inv_tick {s : State} (hs : Inv s) : Inv (tick s) := hs

theorem inv_consume {s : State} (rest : List Stimulus) (hs : Inv s) : Inv (consume rest s) := hs

theorem inv_giveAnswer {s : State} (a : Answer) (hs : Inv s) : Inv (giveAnswer a s) := hs

theorem inv_withScript {s : State} (sc : List Stimulus) (hs : Inv s) :
    Inv { s with script := sc } := hs

theorem inv_accept {s : State} (op : OpCode) (p : Payload) (b : Bool) (hs : Inv s) :
    Inv { accept op p s with inSend := b } := by
  obtain ⟨⟨-, hrx8, -, -⟩, -, -, ⟨-, hheard⟩, -⟩ := hs
  refine ⟨⟨?_, hrx8, ?_, ?_⟩, ?_, ?_, ⟨?_, hheard⟩, ?_⟩
  all_goals simp [RequestIsEncoded, ResultIsVerdict]

/-- A byte sent is the next one of `TXBUF`; the eighth starts the reception (R24, R92). -/
theorem inv_advanceTx {s : State} (h : s.txCnt < 8) (hp : s.phase = .tx) (hs : Inv s) :
    Inv (advanceTx s.txCnt s.txbuf[s.txCnt] s) := by
  obtain ⟨⟨-, hrx8, -, -⟩, henc, -, ⟨hemit, hheard⟩, -⟩ := hs
  have hsent := take_succ_suffix_append h hemit
  have henc : s.txbuf = encodeFrame s.reqOp (framePayload s.txbuf) := henc (by simp [hp])
  by_cases h7 : s.txCnt = 7
  · simp only [h7] at hsent ⊢
    rw [advanceTx_last]
    refine ⟨⟨?_, ?_, ?_, ?_⟩, fun _ => henc, ?_, ⟨hsent, ?_⟩, ?_⟩
    all_goals simp [ResultIsVerdict]
  · rw [advanceTx_before _ _ _ (by omega)]
    refine ⟨⟨?_, hrx8, ?_, ?_⟩, fun _ => henc, ?_, ⟨hsent, hheard⟩, ?_⟩
    all_goals simp [ResultIsVerdict, hp]
    all_goals omega

/-- A byte stored is the next one of `RXBUF`; the eighth ends the exchange with the verdict
(R26, R27, R100). -/
theorem inv_advanceRx {s : State} (b : Byte) (h : s.rxCnt < 8) (hp : s.phase = .rx) (hs : Inv s) :
    Inv (advanceRx s.rxCnt b (s.rxbuf.set s.rxCnt b) s) := by
  obtain ⟨⟨-, -, -, hrx⟩, henc, -, ⟨hemit, hheard⟩, -⟩ := hs
  have htx : s.txCnt = 8 := (hrx hp).1
  have henc : s.txbuf = encodeFrame s.reqOp (framePayload s.txbuf) := henc (by simp [hp])
  have hstored : (s.rxbuf.set s.rxCnt b).toList.take (s.rxCnt + 1) <:+ s.heard ++ [b] := by
    rw [← toList_set_take s.rxbuf h b] at hheard
    simpa using take_succ_suffix_append h hheard
  by_cases h7 : s.rxCnt = 7
  · simp only [h7] at hstored ⊢
    rw [advanceRx_last]
    refine ⟨⟨?_, ?_, ?_, ?_⟩, fun _ => henc, fun _ _ => ⟨htx, rfl, rfl⟩, ⟨hemit, hstored⟩, ?_⟩
    all_goals simp [htx]
  · rw [advanceRx_before _ _ _ _ (by omega)]
    refine ⟨⟨?_, ?_, ?_, ?_⟩, fun _ => henc, ?_, ⟨hemit, hstored⟩, ?_⟩
    all_goals simp [ResultIsVerdict, hp, htx]
    all_goals omega

theorem inv_returnToIdle {s : State} (hs : Inv s) : Inv (returnToIdle s) := by
  obtain ⟨⟨htx8, hrx8, -, -⟩, -, -, hbytes, -⟩ := hs
  refine ⟨⟨htx8, hrx8, ?_, ?_⟩, ?_, ?_, hbytes, ?_⟩
  all_goals simp [RequestIsEncoded, ResultIsVerdict]

/-- An exchange in flight ended by `ABORT` has no verdict to keep (R171). -/
theorem inv_endExchange_ioError {s : State} (hp : inFlight s.phase = true) (hs : Inv s) :
    Inv (endExchange .ioError s) := by
  obtain ⟨⟨htx8, hrx8, -, -⟩, henc, -, hbytes, -⟩ := hs
  have hne : s.phase ≠ .idle := by rintro h; simp [h, inFlight] at hp
  refine ⟨⟨htx8, hrx8, ?_, ?_⟩, fun _ => henc hne, ?_, hbytes, ?_⟩
  all_goals simp [ResultIsVerdict]

theorem inv_release (s : State) : Inv (release s) := by
  refine ⟨⟨?_, ?_, ?_, ?_⟩, ?_, ?_, ⟨?_, ?_⟩, ?_⟩
  all_goals simp [RequestIsEncoded, ResultIsVerdict]

/-! ### Every operation and every step keeps it -/

theorem exec_keeps_inv {i : Instr} {s t : State} (hs : Inv s) (h : exec i s = .next t) : Inv t := by
  rcases exec_next i s t h with rfl | ⟨a, rfl⟩ | ⟨_, op, p, b, rfl, _⟩ | ⟨h8, hp, rfl⟩ | ⟨sc, rfl⟩ |
    ⟨h8, b, sc, hp, rfl⟩ | ⟨_, rfl⟩ | ⟨hp, rfl⟩ | rfl
  · exact hs
  · exact inv_giveAnswer a hs
  · exact inv_accept op p b hs
  · exact inv_advanceTx h8 hp hs
  · exact inv_withScript sc hs
  · exact inv_withScript sc (inv_advanceRx b h8 hp hs)
  · exact inv_returnToIdle hs
  · exact inv_endExchange_ioError hp hs
  · exact inv_release s

/-- Settles O38: a step waits or runs one operation, and each operation's update keeps the
invariant. -/
theorem stepKeepsInv : Obligations.StepKeepsInv := by
  intro s t hs h
  rcases step_next s t h with (rfl | ⟨rest, rfl⟩) | ⟨i, u, hi, rfl | ⟨rest, rfl⟩⟩
  · exact inv_tick hs
  · exact inv_consume rest hs
  · exact exec_keeps_inv (inv_tick hs) hi
  · exact exec_keeps_inv (inv_consume rest hs) hi

/-- Settles O37: in IDLE with both counters 0 every clause of the invariant holds. -/
theorem resetSatisfiesInv : Obligations.ResetSatisfiesInv := inv_reset

end Sys2Proof.Machine
end

section
/-! PROOFS of what changes `PHASE` and `RESULT` (spec/10_state.md R21, R27, R33): each next state of
an operation once more, now with the instruction that gives it. -/

namespace Sys2Proof.Machine

/-! ### What an operation does, by the instruction it is -/

/-- The operations that issue the command `CMD(op, p)`: the event, `SEND`, and a listed REQ row
(R91, R119). -/
def IssuesCommand (i : Instr) (op : OpCode) (p : Payload) : Prop :=
  i = .cmd op p ∨ i = .send op p ∨ ∃ o sum, i = requestRow o p sum ∧ op = opCode o

/-- The operations that bring a response byte: the event `RXB` and a listed RSP row (R100, R119). -/
def BringsByte (i : Instr) : Prop :=
  (∃ b, i = .rxb b) ∨ ∃ o m p sum, i = responseRow o m p sum

/-- `Fires i s t`: the operation `i` takes `s` to `t` in one of the seven ways a block can go. -/
inductive Fires (i : Instr) (s : State) : State → Prop
  /-- no event fires: only the model's `answer` and `script` can be new -/
  | quiet (a : Answer) (sc : List Stimulus) : Fires i s { s with answer := a, script := sc }
  /-- a command is accepted (R91) -/
  | accepted (op : OpCode) (p : Payload) (b : Bool) (hi : IssuesCommand i op p)
      (hp : s.phase = .idle) : Fires i s { accept op p s with inSend := b }
  /-- a byte is sent (R92) -/
  | sent (h : s.txCnt < 8) (hi : i = .txb) (hp : s.phase = .tx) :
      Fires i s (advanceTx s.txCnt s.txbuf[s.txCnt] s)
  /-- a byte is stored (R100) -/
  | stored (h : s.rxCnt < 8) (b : Byte) (sc : List Stimulus) (hi : BringsByte i)
      (hp : s.phase = .rx) :
      Fires i s { advanceRx s.rxCnt b (s.rxbuf.set s.rxCnt b) s with script := sc }
  /-- the result is taken (R117) -/
  | returned (hi : i = .take) (hp : s.phase = .done) : Fires i s (returnToIdle s)
  /-- the exchange is aborted (R171) -/
  | aborted (hi : i = .abort) (hp : inFlight s.phase = true) : Fires i s (endExchange .ioError s)
  /-- the block is cleared or reset (R172, R185) -/
  | released (hi : i = .rst ∨ i = .clear) : Fires i s (release s)

section
variable {i : Instr} {s t : State}

theorem fires_of_issueCommand {op : OpCode} {p : Payload} (hi : IssuesCommand i op p)
    (h : issueCommand op p s = .next t) : Fires i s t := by
  rcases issueCommand_cases op p s with ⟨hp, e⟩ | ⟨_, e⟩ <;> rw [e] at h <;> cases h
  · exact .accepted op p s.inSend hi hp
  · exact .quiet s.answer s.script

theorem fires_of_sendCommand {op : OpCode} {p : Payload} (hi : IssuesCommand i op p)
    (h : sendCommand op p s = .next t) : Fires i s t := by
  rcases sendCommand_cases op p s with ⟨hp, e⟩ | ⟨_, e⟩ <;> rw [e] at h <;> cases h
  · exact .accepted op p true hi hp
  · exact .quiet s.answer s.script

theorem fires_of_transmitByte (h : transmitByte s = .next t) : Fires .txb s t := by
  rcases transmitByte_cases s with ⟨h8, hp, e⟩ | ⟨_, _, e⟩ | ⟨_, e⟩ <;> rw [e] at h <;> cases h
  · exact .sent h8 rfl hp
  · exact .quiet s.answer s.script

/-- The update of a stored byte does not read the script. -/
theorem advanceRx_withScript (n : Nat) (b : Byte) (buf : Frame) (s : State)
    (sc : List Stimulus) :
    advanceRx n b buf { s with script := sc } = { advanceRx n b buf s with script := sc } := by
  unfold advanceRx; dsimp only; split <;> rfl

theorem fires_of_receiveByte {b : Byte} (hi : BringsByte i) (sc : List Stimulus)
    (h : receiveByte b { s with script := sc } = .next t) : Fires i s t := by
  rcases receiveByte_cases b { s with script := sc } with ⟨h8, hp, e⟩ | ⟨_, _, e⟩ | ⟨_, e⟩ <;>
    rw [e] at h <;> cases h
  · rw [advanceRx_withScript]
    exact .stored (s := s) h8 b sc hi hp
  · exact .quiet s.answer sc

theorem fires_take (h : execTake s = .next t) : Fires .take s t := by
  rcases execTake_cases s with ⟨hp, e⟩ | ⟨_, e⟩ <;> rw [e] at h <;> cases h
  · exact .returned rfl hp
  · exact .quiet s.answer s.script

theorem fires_abort (h : execAbort s = .next t) : Fires .abort s t := by
  rcases execAbort_cases s with ⟨hp, e⟩ | ⟨_, e⟩ <;> rw [e] at h <;> cases h
  · exact .aborted rfl hp
  · exact .quiet s.answer s.script

theorem fires_of_release (hi : i = .rst ∨ i = .clear)
    (h : (.next (release s) : Answered) = .next t) : Fires i s t := by
  cases h
  exact .released hi

/-- A function-level row shows its value and fires nothing (R74; log 7). -/
theorem fires_of_giveAnswer {a : Answer} (h : (.next (giveAnswer a s) : Answered) = .next t) :
    Fires i s t := by
  cases h
  exact .quiet a s.script

theorem fires_requestRow (o : ListedOp) {p : Payload} {sum : Half}
    (h : exec (requestRow o p sum) s = .next t) : Fires (requestRow o p sum) s t := by
  rw [exec_requestRow] at h
  exact fires_of_sendCommand (.inr (.inr ⟨o, sum, rfl, rfl⟩)) h

theorem fires_responseRow (o : ListedOp) {m : Byte} {p : Payload} {sum : Half}
    (h : exec (responseRow o m p sum) s = .next t) : Fires (responseRow o m p sum) s t := by
  rw [exec_responseRow] at h
  exact fires_of_receiveByte (.inr ⟨o, m, p, sum, rfl⟩) _ h

end

/-- Every next state of every operation is one of the seven ways, of the instruction named there. -/
theorem exec_fires {s t : State} : ∀ i : Instr, exec i s = .next t → Fires i s t
  | .heartbeat _ _, h => fires_requestRow .heartbeat h
  | .getTemp _ _, h => fires_requestRow .getTemp h
  | .getHumidity _ _, h => fires_requestRow .getHumidity h
  | .getDewPoint _ _, h => fires_requestRow .getDewPoint h
  | .getSetpointOffset _ _, h => fires_requestRow .getSetpointOffset h
  | .getPCoef _ _, h => fires_requestRow .getPCoef h
  | .getICoef _ _, h => fires_requestRow .getICoef h
  | .getDCoef _ _, h => fires_requestRow .getDCoef h
  | .getPowerLevel _ _, h => fires_requestRow .getPowerLevel h
  | .getHwVersion _ _, h => fires_requestRow .getHwVersion h
  | .getFwVersion _ _, h => fires_requestRow .getFwVersion h
  | .setSetpointOffset _ _, h => fires_requestRow .setSetpointOffset h
  | .setPCoef _ _, h => fires_requestRow .setPCoef h
  | .setICoef _ _, h => fires_requestRow .setICoef h
  | .setDCoef _ _, h => fires_requestRow .setDCoef h
  | .setEnable _ _, h => fires_requestRow .setEnable h
  | .setPowerLevel _ _, h => fires_requestRow .setPowerLevel h
  | .resetBoard _ _, h => fires_requestRow .resetBoard h
  | .getBoardTemp _ _, h => fires_requestRow .getBoardTemp h
  | .getTecVoltage _ _, h => fires_requestRow .getTecVoltage h
  | .getTecCurrent _ _, h => fires_requestRow .getTecCurrent h
  | .heartbeatRsp _ _ _, h => fires_responseRow .heartbeat h
  | .getTempRsp _ _ _, h => fires_responseRow .getTemp h
  | .getHumidityRsp _ _ _, h => fires_responseRow .getHumidity h
  | .getDewPointRsp _ _ _, h => fires_responseRow .getDewPoint h
  | .getSetpointOffsetRsp _ _ _, h => fires_responseRow .getSetpointOffset h
  | .getPCoefRsp _ _ _, h => fires_responseRow .getPCoef h
  | .getICoefRsp _ _ _, h => fires_responseRow .getICoef h
  | .getDCoefRsp _ _ _, h => fires_responseRow .getDCoef h
  | .getPowerLevelRsp _ _ _, h => fires_responseRow .getPowerLevel h
  | .getHwVersionRsp _ _ _, h => fires_responseRow .getHwVersion h
  | .getFwVersionRsp _ _ _, h => fires_responseRow .getFwVersion h
  | .setSetpointOffsetRsp _ _ _, h => fires_responseRow .setSetpointOffset h
  | .setPCoefRsp _ _ _, h => fires_responseRow .setPCoef h
  | .setICoefRsp _ _ _, h => fires_responseRow .setICoef h
  | .setDCoefRsp _ _ _, h => fires_responseRow .setDCoef h
  | .setEnableRsp _ _ _, h => fires_responseRow .setEnable h
  | .setPowerLevelRsp _ _ _, h => fires_responseRow .setPowerLevel h
  | .resetBoardRsp _ _ _, h => fires_responseRow .resetBoard h
  | .getBoardTempRsp _ _ _, h => fires_responseRow .getBoardTemp h
  | .getTecVoltageRsp _ _ _, h => fires_responseRow .getTecVoltage h
  | .getTecCurrentRsp _ _ _, h => fires_responseRow .getTecCurrent h
  | .encode _ _ _, h => fires_of_giveAnswer h
  | .decode _ _ _ _, h => fires_of_giveAnswer h
  | .crcBit _ _, h => fires_of_giveAnswer h
  | .crcByte _ _, h => fires_of_giveAnswer h
  | .crc6 _, h => fires_of_giveAnswer h
  | .crcCheck _, h => fires_of_giveAnswer h
  | .opchk _ _, h => fires_of_giveAnswer h
  | .cschk _, h => fires_of_giveAnswer h
  | .validate _ _, h => fires_of_giveAnswer h
  | .send _ _, h => fires_of_sendCommand (.inr (.inl rfl)) h
  | .cmd _ _, h => fires_of_issueCommand (.inl rfl) h
  | .txb, h => fires_of_transmitByte h
  | .rxb b, h => fires_of_receiveByte (.inl ⟨b, rfl⟩) s.script h
  | .take, h => fires_take h
  | .abort, h => fires_abort h
  | .clear, h => fires_of_release (.inr rfl) h
  | .rst, h => fires_of_release (.inl rfl) h

/-! ### The eighth byte -/

/-- Of the bytes sent only the eighth changes the phase (R92). -/
theorem txCnt_of_advanceTx_phase_ne {n : Nat} {b : Byte} {s : State}
    (h : (advanceTx n b s).phase ≠ s.phase) : n = 7 := by
  by_contra hn
  exact h (by rw [advanceTx_phase, if_neg hn])

/-- Of the bytes stored only the eighth changes the phase (R100). -/
theorem rxCnt_of_advanceRx_phase_ne {n : Nat} {b : Byte} {buf : Frame} {s : State}
    (h : (advanceRx n b buf s).phase ≠ s.phase) : n = 7 := by
  by_contra hn
  exact h (by rw [advanceRx_phase, if_neg hn])

/-- Of the bytes stored only the eighth writes the result (R27). -/
theorem rxCnt_of_advanceRx_result_ne {n : Nat} {b : Byte} {buf : Frame} {s : State}
    (h : (advanceRx n b buf s).result ≠ s.result) : n = 7 := by
  by_contra hn
  exact h (by rw [advanceRx_result, if_neg hn])

theorem inFlight_iff (ph : Phase) : inFlight ph = true ↔ ph = .tx ∨ ph = .rx := by
  cases ph <;> decide

/-! ### The obligations -/

/-- Settles O40: each of the ways an operation can go changes the phase as R21 says, or not at
all. -/
theorem phaseTransitionsAreR21 : Obligations.PhaseTransitionsAreR21 := by
  intro i s t h hne
  cases exec_fires i h with
  | quiet => exact absurd rfl hne
  | accepted op p b hi hp => exact .inl ⟨hp, rfl, op, p, rfl, rfl, hi⟩
  | sent h8 hi hp =>
    have h7 := txCnt_of_advanceTx_phase_ne hne
    exact .inr (.inl ⟨hp, by rw [advanceTx_phase, if_pos h7], hi, h7⟩)
  | stored h8 b sc hi hp =>
    have h7 := rxCnt_of_advanceRx_phase_ne hne
    exact .inr (.inr (.inl ⟨hp, by rw [advanceRx_phase, if_pos h7], h7, hi⟩))
  | aborted hi hp =>
    exact .inr (.inr (.inr (.inl ⟨(inFlight_iff s.phase).mp hp, rfl, hi, rfl⟩)))
  | returned hi hp => exact .inr (.inr (.inr (.inr (.inl ⟨hp, rfl, hi⟩))))
  | released hi => exact .inr (.inr (.inr (.inr (.inr ⟨rfl, hi⟩))))

/-- Settles O41: of the ways an operation can go, the eighth byte stored, `ABORT` and the release
write `RESULT`; every other leaves it. -/
theorem resultWrittenOnlyAtEnd : Obligations.ResultWrittenOnlyAtEnd := by
  intro i s t h hne
  cases exec_fires i h with
  | quiet => exact absurd rfl hne
  | accepted => exact absurd rfl hne
  | sent => exact absurd (advanceTx_result _ _ s) hne
  | stored h8 b sc hi hp =>
    have h7 := rxCnt_of_advanceRx_result_ne hne
    refine .inl ⟨hp, h7, ?_, ?_⟩
    · rw [advanceRx_phase, if_pos h7]
    · rw [advanceRx_result, if_pos h7, advanceRx_rxbuf]
  | returned => exact absurd rfl hne
  | aborted hi hp => exact .inr (.inl ⟨hi, rfl, rfl⟩)
  | released hi => exact .inr (.inr hi)

end Sys2Proof.Machine
end

section
/-! PROOFS that nothing observable depends on a register before it is written (spec/10_state.md R37):
two states that agree on what an exchange has written stay so related, step by step. -/

namespace Sys2Proof.Machine

/-! ### What two such states share -/

section
variable {s t : State} (h : AgreeWhereWritten s t)
include h

theorem AgreeWhereWritten.phase : s.phase = t.phase := h.1.1
theorem AgreeWhereWritten.txCnt : s.txCnt = t.txCnt := h.1.2.1
theorem AgreeWhereWritten.rxCnt : s.rxCnt = t.rxCnt := h.1.2.2
theorem AgreeWhereWritten.inSend : s.inSend = t.inSend := h.2.1.1
theorem AgreeWhereWritten.script : s.script = t.script := h.2.1.2.1
theorem AgreeWhereWritten.answer : s.answer = t.answer := h.2.1.2.2.1
theorem AgreeWhereWritten.draws : s.draws = t.draws := h.2.1.2.2.2
theorem AgreeWhereWritten.emitted : s.emitted = t.emitted := h.2.2.1.1
theorem AgreeWhereWritten.heard : s.heard = t.heard := h.2.2.1.2.1
theorem AgreeWhereWritten.taken : s.taken = t.taken := h.2.2.1.2.2

theorem AgreeWhereWritten.request (hp : s.phase ≠ .idle) : s.reqOp = t.reqOp ∧ s.txbuf = t.txbuf :=
  h.2.2.2.1 hp

theorem AgreeWhereWritten.received (hp : s.phase = .rx) (i : Nat) (hi : i < s.rxCnt) :
    s.rxbuf[i]? = t.rxbuf[i]? := h.2.2.2.2.1 hp i hi

theorem AgreeWhereWritten.outcome (hp : s.phase = .done) :
    s.result = t.result ∧ (s.result ≠ .ioError → s.rxbuf = t.rxbuf) := h.2.2.2.2.2 hp

/-! ### What they show -/

/-- The fields are shown from `RXBUF` only where both hold the same (R29). -/
theorem AgreeWhereWritten.shownFields_eq : shownFields s = shownFields t := by
  by_cases hp : s.phase = .done
  · obtain ⟨hres, hbuf⟩ := h.outcome hp
    have htp : t.phase = .done := h.phase ▸ hp
    by_cases hio : s.result = .ioError
    · simp [shownFields, fieldsValid, hp, htp, ← hres, hio, h.draws]
    · simp [shownFields, fieldsValid, hp, htp, ← hres, hio, hbuf hio]
  · have htp : t.phase ≠ .done := h.phase ▸ hp
    simp [shownFields, fieldsValid, hp, htp, h.draws]

theorem AgreeWhereWritten.outputs_eq : outputs s = outputs t := by
  have hdata (hp : t.phase = .tx) : s.txbuf = t.txbuf :=
    (h.request (by rw [h.phase, hp]; decide)).2
  have hstatus (hp : t.phase = .done) : s.result = t.result := (h.outcome (h.phase.trans hp)).1
  unfold outputs
  rw [h.shownFields_eq, h.phase, h.txCnt, h.draws]
  congr 1
  · split
    next hp => rw [hdata hp]
    next => rfl
  · split
    next hp => rw [hstatus hp]
    next => rfl

theorem AgreeWhereWritten.hostResult_eq (hp : s.phase = .done) : hostResult s = hostResult t := by
  unfold hostResult
  rw [(h.outcome hp).1, h.shownFields_eq]

/-! ### The updates keep them so related -/

theorem AgreeWhereWritten.tick : AgreeWhereWritten (tick s) (tick t) := by
  obtain ⟨hph, ⟨hin, hsc, han, hdr⟩, hrec, hregs⟩ := h
  exact ⟨hph, ⟨hin, hsc, han, congrArg (· + 1) hdr⟩, hrec, hregs⟩

theorem AgreeWhereWritten.withScript (sc : List Stimulus) :
    AgreeWhereWritten { s with script := sc } { t with script := sc } := by
  obtain ⟨hph, ⟨hin, -, han, hdr⟩, hrec, hregs⟩ := h
  exact ⟨hph, ⟨hin, rfl, han, hdr⟩, hrec, hregs⟩

theorem AgreeWhereWritten.consume (rest : List Stimulus) :
    AgreeWhereWritten (consume rest s) (consume rest t) := h.tick.withScript rest

theorem AgreeWhereWritten.giveAnswer (a : Answer) :
    AgreeWhereWritten (giveAnswer a s) (giveAnswer a t) := by
  obtain ⟨hph, ⟨hin, hsc, -, hdr⟩, hrec, hregs⟩ := h
  exact ⟨hph, ⟨hin, hsc, rfl, hdr⟩, hrec, hregs⟩

/-- An accepted command writes all of the request (R91). -/
theorem AgreeWhereWritten.accept (op : OpCode) (p : Payload) :
    AgreeWhereWritten (accept op p s) (accept op p t) := by
  obtain ⟨⟨-, -, hrx⟩, hown, hrec, -⟩ := h
  exact ⟨⟨rfl, rfl, hrx⟩, hown, hrec, fun _ => ⟨rfl, rfl⟩, nofun, nofun⟩

theorem AgreeWhereWritten.withInSend (b : Bool) :
    AgreeWhereWritten { s with inSend := b } { t with inSend := b } := by
  obtain ⟨hph, ⟨-, hsc, han, hdr⟩, hrec, hregs⟩ := h
  exact ⟨hph, ⟨rfl, hsc, han, hdr⟩, hrec, hregs⟩

/-- The eighth byte sent starts a reception of which nothing has been received (R26, R92). -/
theorem AgreeWhereWritten.advanceTx (n : Nat) (b : Byte) (hp : s.phase = .tx) :
    AgreeWhereWritten (advanceTx n b s) (advanceTx n b t) := by
  have hreq := h.request (by rw [hp]; decide)
  obtain ⟨⟨hph, -, hrx⟩, hown, ⟨hem, hrec⟩, -⟩ := h
  have hem : s.emitted ++ [b] = t.emitted ++ [b] := by rw [hem]
  by_cases h7 : n = 7
  · subst h7
    rw [advanceTx_last, advanceTx_last]
    exact ⟨⟨rfl, rfl, rfl⟩, hown, ⟨hem, hrec⟩, fun _ => hreq, nofun, nofun⟩
  · rw [advanceTx_before _ _ _ (by omega), advanceTx_before _ _ _ (by omega)]
    refine ⟨⟨hph, rfl, hrx⟩, hown, ⟨hem, hrec⟩, fun _ => hreq, ?_, ?_⟩
    all_goals simp [hp]

theorem AgreeWhereWritten.returnToIdle (hp : s.phase = .done) :
    AgreeWhereWritten (returnToIdle s) (returnToIdle t) := by
  have hres := h.hostResult_eq hp
  obtain ⟨⟨-, hcnt⟩, ⟨-, hown⟩, ⟨hem, hhe, hta⟩, -⟩ := h
  have hta : s.taken ++ [hostResult s] = t.taken ++ [hostResult t] := by rw [hta, hres]
  exact ⟨⟨rfl, hcnt⟩, ⟨rfl, hown⟩, ⟨hem, hhe, hta⟩, nofun, nofun, nofun⟩

/-- `ABORT` ends an exchange with a result that makes the fields undefined (R29, R171). -/
theorem AgreeWhereWritten.endExchange_ioError (hp : s.phase ≠ .idle) :
    AgreeWhereWritten (endExchange .ioError s) (endExchange .ioError t) := by
  have hreq := h.request hp
  obtain ⟨⟨-, hcnt⟩, hown, hrec, -⟩ := h
  exact ⟨⟨rfl, hcnt⟩, hown, hrec, fun _ => hreq, nofun, fun _ => ⟨rfl, fun hne => absurd rfl hne⟩⟩

theorem AgreeWhereWritten.release : AgreeWhereWritten (release s) (release t) := by
  obtain ⟨-, ⟨-, hown⟩, hrec, -⟩ := h
  exact ⟨⟨rfl, rfl, rfl⟩, ⟨rfl, hown⟩, hrec, nofun, nofun, nofun⟩

end

/-! ### A byte stored -/

/-- Two buffers with the same first `n` bytes have the same first `n + 1` after the same write at
offset `n`. -/
theorem getElem?_set_congr {f g : Frame} {n : Nat} (hn : n < 8) (b : Byte)
    (hfg : ∀ i, i < n → f[i]? = g[i]?) {i : Nat} (hi : i < n + 1) :
    (f.set n b)[i]? = (g.set n b)[i]? := by
  rw [Vector.getElem?_set, Vector.getElem?_set]
  split
  next => rfl
  next hne => exact hfg i (by omega)

/-- Two frames with the same eight bytes are equal. -/
theorem frame_ext_getElem? {f g : Frame} (hfg : ∀ i, i < 8 → f[i]? = g[i]?) : f = g := by
  ext1 i hi
  simpa [hi] using hfg i hi

section
variable {s t : State} (h : AgreeWhereWritten s t)
include h

/-- The eighth byte stored makes the two buffers equal, and so the two verdicts (R100). -/
theorem AgreeWhereWritten.advanceRx (b : Byte) (hp : s.phase = .rx) (hs : s.rxCnt < 8)
    (ht : t.rxCnt < 8) :
    AgreeWhereWritten (advanceRx s.rxCnt b (s.rxbuf.set s.rxCnt b) s)
      (advanceRx t.rxCnt b (t.rxbuf.set t.rxCnt b) t) := by
  have hreq := h.request (by rw [hp]; decide)
  have hcnt := h.rxCnt
  have hbytes := fun i => getElem?_set_congr hs b (h.received hp) (i := i)
  have hhe : s.heard ++ [b] = t.heard ++ [b] := by rw [h.heard]
  obtain ⟨⟨hph, htx, -⟩, hown, ⟨hem, -, hta⟩, -⟩ := h
  simp only [← hcnt]
  by_cases h7 : s.rxCnt = 7
  · simp only [h7] at hbytes ⊢
    have hbuf := frame_ext_getElem? hbytes
    rw [advanceRx_last, advanceRx_last]
    exact ⟨⟨rfl, htx, rfl⟩, hown, ⟨hem, hhe, hta⟩, fun _ => hreq, nofun,
      fun _ => ⟨by rw [hreq.1, hbuf], fun _ => hbuf⟩⟩
  · rw [advanceRx_before _ _ _ _ (by omega), advanceRx_before _ _ _ _ (by omega)]
    refine ⟨⟨hph, htx, rfl⟩, hown, ⟨hem, hhe, hta⟩, fun _ => hreq, fun _ => hbytes, ?_⟩
    simp [hp]

end

/-! ### The shared operations -/

theorem transmitByte_of_tx {s : State} (hp : s.phase = .tx) (h : s.txCnt < 8) :
    transmitByte s = .next (advanceTx s.txCnt s.txbuf[s.txCnt] s) := by
  simp [transmitByte, hp, readByte_of_lt _ _ h]

theorem transmitByte_of_tx_ge {s : State} (hp : s.phase = .tx) (h : 8 ≤ s.txCnt) :
    transmitByte s = .fault (.txOffset s.txCnt) := by
  simp [transmitByte, hp, readByte_of_ge _ _ h]

theorem transmitByte_of_ne_tx {s : State} (hp : s.phase ≠ .tx) : transmitByte s = .next s := by
  unfold transmitByte
  split <;> simp_all

theorem receiveByte_of_rx {s : State} (b : Byte) (hp : s.phase = .rx) (h : s.rxCnt < 8) :
    receiveByte b s = .next (advanceRx s.rxCnt b (s.rxbuf.set s.rxCnt b) s) := by
  simp [receiveByte, hp, writeByte_of_lt _ _ _ h]

theorem receiveByte_of_rx_ge {s : State} (b : Byte) (hp : s.phase = .rx) (h : 8 ≤ s.rxCnt) :
    receiveByte b s = .fault (.rxOffset s.rxCnt) := by
  simp [receiveByte, hp, writeByte_of_ge _ _ _ h]

theorem receiveByte_of_ne_rx {s : State} (b : Byte) (hp : s.phase ≠ .rx) :
    receiveByte b s = .next s := by
  unfold receiveByte
  split <;> simp_all

/-- Two fetches of the same kind: one operation on two states that agree, two such states that wait,
or one refusal. -/
inductive SameFetched : Fetched → Fetched → Prop
  | run (i : Instr) {u v : State} (huv : AgreeWhereWritten u v) : SameFetched (.run i u) (.run i v)
  | wait {u v : State} (huv : AgreeWhereWritten u v) : SameFetched (.wait u) (.wait v)
  | reject (r : Refusal) : SameFetched (.reject r) (.reject r)

section
variable {s t : State} (h : AgreeWhereWritten s t)
include h

/-- An operation that makes one update in some phases and does not fire in the others does the same
to both states: they are in the same phase. -/
theorem AgreeWhereWritten.sameOutcome_of_cases {P : Phase → Prop} {op : State → Answered}
    {update : State → State}
    (hop : ∀ u, (P u.phase ∧ op u = .next (update u)) ∨ (¬ P u.phase ∧ op u = .next u))
    (hupdate : P s.phase → AgreeWhereWritten (update s) (update t)) :
    SameOutcome AgreeWhereWritten (op s) (op t) := by
  have hph := h.phase
  rcases hop s with ⟨hs, es⟩ | ⟨hs, es⟩ <;> rcases hop t with ⟨ht, et⟩ | ⟨ht, et⟩ <;> rw [es, et]
  · exact hupdate hs
  · exact absurd (hph ▸ hs) ht
  · exact absurd (hph ▸ ht) hs
  · exact h

theorem AgreeWhereWritten.sameOutcome_issueCommand (op : OpCode) (p : Payload) :
    SameOutcome AgreeWhereWritten (issueCommand op p s) (issueCommand op p t) :=
  h.sameOutcome_of_cases (P := (· = .idle)) (issueCommand_cases op p) fun _ => h.accept op p

theorem AgreeWhereWritten.sameOutcome_sendCommand (op : OpCode) (p : Payload) :
    SameOutcome AgreeWhereWritten (sendCommand op p s) (sendCommand op p t) :=
  h.sameOutcome_of_cases (P := (· = .idle)) (sendCommand_cases op p)
    fun _ => (h.accept op p).withInSend true

theorem AgreeWhereWritten.sameOutcome_execTake :
    SameOutcome AgreeWhereWritten (execTake s) (execTake t) :=
  h.sameOutcome_of_cases (P := (· = .done)) execTake_cases fun hp => h.returnToIdle hp

theorem AgreeWhereWritten.sameOutcome_execAbort :
    SameOutcome AgreeWhereWritten (execAbort s) (execAbort t) := by
  refine h.sameOutcome_of_cases (P := (inFlight · = true)) (update := endExchange .ioError)
    (fun u => by simpa using execAbort_cases u) fun hp => h.endExchange_ioError ?_
  intro hidle
  simp [hidle, inFlight] at hp

theorem AgreeWhereWritten.sameOutcome_transmitByte :
    SameOutcome AgreeWhereWritten (transmitByte s) (transmitByte t) := by
  have hph := h.phase
  have hcnt := h.txCnt
  by_cases hp : s.phase = .tx
  · have hbuf : s.txbuf = t.txbuf := (h.request (by rw [hp]; decide)).2
    by_cases h8 : s.txCnt < 8
    · rw [transmitByte_of_tx hp h8, transmitByte_of_tx (hph ▸ hp) (hcnt ▸ h8)]
      simp only [← hcnt, ← hbuf]
      exact h.advanceTx _ _ hp
    · rw [transmitByte_of_tx_ge hp (by omega), transmitByte_of_tx_ge (hph ▸ hp) (by omega), hcnt]
      rfl
  · rw [transmitByte_of_ne_tx hp, transmitByte_of_ne_tx (hph ▸ hp)]
    exact h

theorem AgreeWhereWritten.sameOutcome_receiveByte (b : Byte) :
    SameOutcome AgreeWhereWritten (receiveByte b s) (receiveByte b t) := by
  have hph := h.phase
  have hcnt := h.rxCnt
  by_cases hp : s.phase = .rx
  · by_cases h8 : s.rxCnt < 8
    · rw [receiveByte_of_rx b hp h8, receiveByte_of_rx b (hph ▸ hp) (hcnt ▸ h8)]
      exact h.advanceRx b hp h8 (hcnt ▸ h8)
    · rw [receiveByte_of_rx_ge b hp (by omega), receiveByte_of_rx_ge b (hph ▸ hp) (by omega), hcnt]
      rfl
  · rw [receiveByte_of_ne_rx b hp, receiveByte_of_ne_rx b (hph ▸ hp)]
    exact h

theorem AgreeWhereWritten.sameOutcome_receiveFrame (f : Frame) :
    SameOutcome AgreeWhereWritten (receiveFrame f s) (receiveFrame f t) := by
  unfold receiveFrame
  rw [h.script]
  exact (h.withScript _).sameOutcome_receiveByte f[0]

/-! ### Every operation and every step -/

theorem AgreeWhereWritten.sameOutcome_exec (i : Instr) :
    SameOutcome AgreeWhereWritten (exec i s) (exec i t) := by
  rcases exec_form i with ⟨a, e⟩ | ⟨op, p, e⟩ | ⟨op, p, e⟩ | e | ⟨b, e⟩ | ⟨f, e⟩ | e | ⟨_, e⟩ |
    ⟨_, e⟩ <;> rw [e s, e t]
  · exact h.giveAnswer a
  · exact h.sameOutcome_issueCommand op p
  · exact h.sameOutcome_sendCommand op p
  · exact h.sameOutcome_transmitByte
  · exact h.sameOutcome_receiveByte b
  · exact h.sameOutcome_receiveFrame f
  · exact h.sameOutcome_execTake
  · exact h.sameOutcome_execAbort
  · exact h.release

/-- What is read next is decoded by the phase, which they share (R28). -/
theorem AgreeWhereWritten.sameFetched_readStimulus (x : Stimulus) (rest : List Stimulus) :
    SameFetched (readStimulus x rest s) (readStimulus x rest t) := by
  unfold readStimulus
  rw [← h.phase]
  rcases decode s.phase x with r | _ | i
  · exact .reject (refusalOf r)
  · exact .wait (h.consume rest)
  · exact .run i (h.consume rest)

/-- Whether a result is taken before the script is read stands in the fields they share (R119). -/
theorem AgreeWhereWritten.sameFetched_fetch : SameFetched (fetch s) (fetch t) := by
  have hret : returning t = returning s := by unfold returning; rw [h.inSend, h.phase]
  unfold fetch
  rw [← h.script, hret]
  cases s.script with
  | nil =>
    dsimp only
    split
    · exact .run .take h.tick
    · exact .wait h.tick
  | cons x rest =>
    dsimp only
    split
    · exact .run .take h.tick
    · exact h.sameFetched_readStimulus x rest

theorem AgreeWhereWritten.sameOutcome_step : SameOutcome AgreeWhereWritten (step s) (step t) := by
  have hf := h.sameFetched_fetch
  unfold step
  generalize fetch s = a, fetch t = b at hf ⊢
  cases hf with
  | run i huv => exact huv.sameOutcome_exec i
  | wait huv => exact huv
  | reject r => rfl

end

/-- Settles O47: the outputs and the step of two such states read only what they share. -/
theorem unwrittenRegistersAreNotRead : Obligations.UnwrittenRegistersAreNotRead :=
  fun _ _ h => ⟨h.outputs_eq, h.sameOutcome_step⟩

end Sys2Proof.Machine
end

section
/-! PROOFS of what the output ports show (spec/10_state.md R28, R29, R34, R37, spec/60_exceptions.md
R160). -/

namespace Sys2Proof.Machine

/-! ### The four handshakes -/

@[simp] theorem outputs_cmdReady (s : State) : (outputs s).cmdReady = decide (s.phase = .idle) := rfl
@[simp] theorem outputs_txValid (s : State) : (outputs s).txValid = decide (s.phase = .tx) := rfl
@[simp] theorem outputs_rxReady (s : State) : (outputs s).rxReady = decide (s.phase = .rx) := rfl
@[simp] theorem outputs_rspValid (s : State) : (outputs s).rspValid = decide (s.phase = .done) := rfl

/-- Settles O48: each handshake is the test for one phase, and there are four phases. -/
theorem exactlyOneHandshake : Obligations.ExactlyOneHandshake := by
  intro s
  refine ⟨?_, ?_, ?_, ?_, ?_⟩
  case refine_5 => cases hp : s.phase <;> simp [hp]
  all_goals simp

@[simp] theorem reset_phase : State.reset.phase = .idle := rfl

/-- Settles O36: the handshakes follow the phase, which after reset is IDLE. -/
theorem resetIsIdle : Obligations.ResetIsIdle := by
  refine ⟨reset_phase, rfl, rfl, ?_, ?_, ?_, ?_⟩
  all_goals simp

/-! ### The data outputs where they are valid -/

theorem outputs_rspStatus_of_done {s : State} (hp : s.phase = .done) :
    (outputs s).rspStatus = resultCode s.result := by
  simp [outputs, hp]

/-- Where the fields are valid they are `Decode(RXBUF)` (R29). -/
theorem shownFields_of_done {s : State} (hp : s.phase = .done) (hr : s.result ≠ .ioError) :
    shownFields s = decodeFields s.rxbuf := by
  simp [shownFields, fieldsValid, hp, hr]

theorem outputs_txData_of_tx {s : State} (hp : s.phase = .tx) (h : s.txCnt < 8) :
    (outputs s).txData = s.txbuf[s.txCnt] := by
  simp [outputs, hp, h]

/-- Settles O49: each data output, where it is valid, is the register behind it. -/
theorem validOutputsShowRegisters : Obligations.ValidOutputsShowRegisters := by
  intro s
  refine ⟨fun hp => ?_, fun hp hr => ?_, fun h hp => outputs_txData_of_tx hp h⟩
  · rw [outputs_rspStatus_of_done hp]
    refine ⟨?_, ?_, ?_, ?_⟩ <;> intro hr <;> rw [hr] <;> rfl
  · simp only [outputs, shownFields_of_done hp hr]
    exact ⟨rfl, rfl, rfl, rfl⟩

end Sys2Proof.Machine
end

section
/-! PROOFS that a frame offset outside 0 to 7 is never formed (spec/20_memory.md R40): the only faults
are those of a count out of range, and the invariant keeps the counts in range. -/

namespace Sys2Proof.Machine

/-! ### What a fault can be -/

/-- `OffsetFault s r`: in `s` the next byte sent or stored would be at the offset `r` names, which is
outside the frame (R40; log 13). -/
inductive OffsetFault (s : State) : Fault → Prop
  /-- the next byte of `TXBUF` to send -/
  | tx (hp : s.phase = .tx) (h : 8 ≤ s.txCnt) : OffsetFault s (.txOffset s.txCnt)
  /-- the next byte of `RXBUF` to store -/
  | rx (hp : s.phase = .rx) (h : 8 ≤ s.rxCnt) : OffsetFault s (.rxOffset s.rxCnt)

section
variable {s : State} {r : Fault}

theorem offsetFault_of_transmitByte (h : transmitByte s = .fault r) : OffsetFault s r := by
  rcases transmitByte_cases s with ⟨_, _, e⟩ | ⟨hp, h8, e⟩ | ⟨_, e⟩ <;> rw [e] at h <;> cases h
  exact .tx hp h8

/-- The script plays no part in where a byte is stored. -/
theorem offsetFault_of_receiveByte {b : Byte} (sc : List Stimulus)
    (h : receiveByte b { s with script := sc } = .fault r) : OffsetFault s r := by
  rcases receiveByte_cases b { s with script := sc } with ⟨_, _, e⟩ | ⟨hp, h8, e⟩ | ⟨_, e⟩ <;>
    rw [e] at h <;> cases h
  exact .rx hp h8

/-- Only the operations that send or store a byte can fault, and only at such an offset. -/
theorem offsetFault_of_exec {i : Instr} (h : exec i s = .fault r) : OffsetFault s r := by
  rcases exec_cases i s with ⟨a, e⟩ | ⟨op, p, e⟩ | ⟨op, p, e⟩ | e | ⟨b, e⟩ | ⟨f, e⟩ | e | ⟨_, e⟩ |
    ⟨_, e⟩ <;> rw [e] at h
  · cases h
  · rcases issueCommand_cases op p s with ⟨_, e⟩ | ⟨_, e⟩ <;> rw [e] at h <;> cases h
  · rcases sendCommand_cases op p s with ⟨_, e⟩ | ⟨_, e⟩ <;> rw [e] at h <;> cases h
  · exact offsetFault_of_transmitByte h
  · exact offsetFault_of_receiveByte s.script h
  · exact offsetFault_of_receiveByte _ h
  · rcases execTake_cases s with ⟨_, e⟩ | ⟨_, e⟩ <;> rw [e] at h <;> cases h
  · rcases execAbort_cases s with ⟨_, e⟩ | ⟨_, e⟩ <;> rw [e] at h <;> cases h
  · cases h

/-- A step that faults runs an operation that does: reading the script never faults. -/
theorem exec_fault_of_step (h : step s = .fault r) :
    ∃ i u, exec i u = .fault r ∧ (u = tick s ∨ ∃ rest, u = consume rest s) := by
  rcases fetch_cases s with ⟨hf, _, _⟩ | ⟨hf, _⟩ | ⟨x, rest, _, _, hf⟩
  · simp only [step, hf] at h; cases h
  · exact ⟨.take, tick s, step_of_fetch_run hf ▸ h, .inl rfl⟩
  · unfold readStimulus at hf
    split at hf
    next i _ => exact ⟨i, consume rest s, step_of_fetch_run hf ▸ h, .inr ⟨rest, rfl⟩⟩
    all_goals simp only [step, hf] at h; cases h

/-! ### The invariant leaves none -/

/-- In TX and in RX the count of the bytes moved so far is below 8 (R24, R26). -/
theorem not_offsetFault_of_inv (hs : Inv s) : ¬ OffsetFault s r := by
  obtain ⟨⟨-, -, htx, hrx⟩, -⟩ := hs
  rintro (⟨hp, h8⟩ | ⟨hp, h8⟩)
  · exact Nat.not_lt.mpr h8 (htx hp)
  · exact Nat.not_lt.mpr h8 (hrx hp).2

end

/-- Settles O39: the operation a step runs would fault at an offset out of range, which the invariant
excludes. -/
theorem noFaultUnderInv : Obligations.NoFaultUnderInv := by
  intro s r hs h
  obtain ⟨i, u, hi, rfl | ⟨rest, rfl⟩⟩ := exec_fault_of_step h
  · exact not_offsetFault_of_inv (inv_tick hs) (offsetFault_of_exec hi)
  · exact not_offsetFault_of_inv (inv_consume rest hs) (offsetFault_of_exec hi)

end Sys2Proof.Machine
end

section
/-! PROOFS of the encoding (spec/30_encoding.md R60 to R74): the decoder's answer to each kind of
frame, and the two round trips of decoder and encoder. -/

namespace Sys2Proof.Machine

/-! ### What a frame decodes to -/

section
variable {f : Frame} {o : ListedOp}

theorem decodeFrame_request_listed (h0 : f[0] = 0xAA) (h1 : listedRequest f[1] = some o) :
    decodeFrame .request f = .ok (requestRow o (framePayload f) (frameChecksum f)) := by
  simp [decodeFrame, h0, h1]

theorem decodeFrame_request_unlisted (h0 : f[0] = 0xAA) (h1 : listedRequest f[1] = none) :
    decodeFrame .request f = .ok (.encode f[1] (framePayload f) (frameChecksum f)) := by
  simp [decodeFrame, h0, h1]

theorem decodeFrame_request_badMarker (h0 : f[0] ≠ 0xAA) :
    decodeFrame .request f = .error (.notARequest f[0]) := if_neg h0

theorem decodeFrame_response_listed (h1 : listedResponse f[1] = some o) :
    decodeFrame .response f = .ok (responseRow o f[0] (framePayload f) (frameChecksum f)) := by
  simp [decodeFrame, h1]

theorem decodeFrame_response_unlisted (h1 : listedResponse f[1] = none) :
    decodeFrame .response f = .ok (.decode f[0] f[1] (framePayload f) (frameChecksum f)) := by
  simp [decodeFrame, h1]

end

/-- In the request space a marker other than 0xAA is rejected; otherwise the specific row is taken,
and the generic row where there is none (R61, R70, R74). -/
theorem decodeFrame_request_cases (f : Frame) :
    (f[0] ≠ 0xAA ∧ decodeFrame .request f = .error (.notARequest f[0])) ∨
    (f[0] = 0xAA ∧ ∃ o, listedRequest f[1] = some o ∧
      decodeFrame .request f = .ok (requestRow o (framePayload f) (frameChecksum f))) ∨
    (f[0] = 0xAA ∧ listedRequest f[1] = none ∧
      decodeFrame .request f = .ok (.encode f[1] (framePayload f) (frameChecksum f))) := by
  by_cases h0 : f[0] = 0xAA
  · cases h1 : listedRequest f[1] with
    | some o => exact .inr (.inl ⟨h0, o, rfl, decodeFrame_request_listed h0 h1⟩)
    | none => exact .inr (.inr ⟨h0, rfl, decodeFrame_request_unlisted h0 h1⟩)
  · exact .inl ⟨h0, decodeFrame_request_badMarker h0⟩

/-- In the response space the specific row is taken, and the generic row where there is none (R62,
R74). -/
theorem decodeFrame_response_cases (f : Frame) :
    (∃ o, listedResponse f[1] = some o ∧
      decodeFrame .response f = .ok (responseRow o f[0] (framePayload f) (frameChecksum f))) ∨
    (listedResponse f[1] = none ∧
      decodeFrame .response f = .ok (.decode f[0] f[1] (framePayload f) (frameChecksum f))) := by
  cases h1 : listedResponse f[1] with
  | some o => exact .inl ⟨o, rfl, decodeFrame_response_listed h1⟩
  | none => exact .inr ⟨rfl, decodeFrame_response_unlisted h1⟩

/-- Settles O54: each of the two spaces has a generic row for the op_codes without a specific
one. -/
theorem everyOpCodeDecodes : Obligations.EveryOpCodeDecodes := by
  intro f
  constructor
  · rcases decodeFrame_response_cases f with ⟨_, _, h⟩ | ⟨_, h⟩
    · exact ⟨_, h⟩
    · exact ⟨_, h⟩
  · intro h0
    rcases decodeFrame_request_cases f with ⟨hne, _⟩ | ⟨_, _, _, h⟩ | ⟨_, _, h⟩
    · exact absurd h0 hne
    · exact ⟨_, h⟩
    · exact ⟨_, h⟩

/-! ### What encodes an instruction decodes to it -/

theorem decode_frame_of_ok {d : Direction} {f : Frame} {i : Instr} (ph : Phase)
    (h : decodeFrame d f = .ok i) : decode ph (.frame d f) = .ok (some i) := by
  simp only [decode, h]

theorem decode_requestFrame (ph : Phase) (o : ListedOp) (p : Payload) (sum : Half) :
    decode ph (.frame .request (requestFrame (opCode o) p sum)) = .ok (some (requestRow o p sum)) :=
  decode_frame_of_ok ph (decodeFrame_requestFrame o p sum)

theorem decode_responseFrame (ph : Phase) (o : ListedOp) (m : Byte) (p : Payload) (sum : Half) :
    decode ph (.frame .response (responseFrame (opCode o) m p sum)) =
      .ok (some (responseRow o m p sum)) :=
  decode_frame_of_ok ph (decodeFrame_responseFrame o m p sum)

/-- A well-formed generic REQ row is read back: no specific row matches its op_code (R74). -/
theorem decode_encode_genericRequest (ph : Phase) {op : OpCode} (p : Payload) (sum : Half)
    (h : WellFormed (.encode op p sum) = true) :
    decode ph (encode (.encode op p sum)) = .ok (some (.encode op p sum)) := by
  have h1 : listedRequest (requestFrame op p sum)[1] = none := Option.isNone_iff_eq_none.mp h
  have hd := decodeFrame_request_unlisted (f := requestFrame op p sum) rfl h1
  simp only [requestFrame, framePayload_frameOfFields, frameChecksum_frameOfFields,
    frameOfFields_1] at hd
  exact decode_frame_of_ok ph hd

/-- A well-formed generic RSP row is read back, whatever its marker (R74). -/
theorem decode_encode_genericResponse (ph : Phase) {m op : Byte} (p : Payload) (sum : Half)
    (h : WellFormed (.decode m op p sum) = true) :
    decode ph (encode (.decode m op p sum)) = .ok (some (.decode m op p sum)) := by
  have h1 : listedResponse (frameOfFields ⟨m, op, p, sum⟩)[1] = none :=
    Option.isNone_iff_eq_none.mp h
  have hd := decodeFrame_response_unlisted h1
  simp only [framePayload_frameOfFields, frameChecksum_frameOfFields, frameOfFields_0,
    frameOfFields_1] at hd
  exact decode_frame_of_ok ph hd

/-- The command selected by its own port sample, in the phase that enables it (R28, R64). -/
theorem decode_encode_cmd (op : OpCode) (p : Payload) :
    decode .idle (encode (.cmd op p)) = .ok (some (.cmd op p)) := by
  simp [decode, encode, select, handshake, unpackPayload_packPayload]

/-- `io_abort` alone selects `ABORT` in every phase: in TX and RX at once, in IDLE and DONE because
no handshake input is 1 (R28, R171). -/
theorem decode_encode_abort (ph : Phase) : decode ph (encode .abort) = .ok (some .abort) := by
  cases ph <;> rfl

/-- Settles O52: REQ and RSP rows are read from their frames, the generic rows because no specific
row matches, events from their own input, and function-level rows from their line. -/
theorem decodeOfEncode : Obligations.DecodeOfEncode := by
  intro i ph hwf hen
  cases i
  case heartbeat | getTemp | getHumidity | getDewPoint | getSetpointOffset | getPCoef | getICoef |
      getDCoef | getPowerLevel | getHwVersion | getFwVersion | setSetpointOffset | setPCoef |
      setICoef | setDCoef | setEnable | setPowerLevel | resetBoard | getBoardTemp | getTecVoltage |
      getTecCurrent =>
    exact decode_requestFrame ph _ _ _
  case heartbeatRsp | getTempRsp | getHumidityRsp | getDewPointRsp | getSetpointOffsetRsp |
      getPCoefRsp | getICoefRsp | getDCoefRsp | getPowerLevelRsp | getHwVersionRsp |
      getFwVersionRsp | setSetpointOffsetRsp | setPCoefRsp | setICoefRsp | setDCoefRsp |
      setEnableRsp | setPowerLevelRsp | resetBoardRsp | getBoardTempRsp | getTecVoltageRsp |
      getTecCurrentRsp =>
    exact decode_responseFrame ph _ _ _ _
  case encode op p sum => exact decode_encode_genericRequest ph p sum hwf
  case decode m op p sum => exact decode_encode_genericResponse ph p sum hwf
  case crcBit | crcByte | crc6 | crcCheck | opchk | cschk | validate | send => rfl
  case cmd op p =>
    obtain rfl : ph = .idle := of_decide_eq_true hen
    exact decode_encode_cmd op p
  case txb =>
    obtain rfl : ph = .tx := of_decide_eq_true hen
    rfl
  case rxb b =>
    obtain rfl : ph = .rx := of_decide_eq_true hen
    rfl
  case take =>
    obtain rfl : ph = .done := of_decide_eq_true hen
    rfl
  case abort => exact decode_encode_abort ph
  case clear | rst => rfl

/-! ### A frame that decodes is the encoding of what it decodes to -/

/-- A frame is put together again from its fields (R101, R103). -/
theorem frameOfFields_decodeFields (f : Frame) :
    frameOfFields (decodeFields f) = f := by
  simp [frameOfFields, decodeFields, framePayload, frameChecksum]

/-- A frame with the fixed marker is the request frame of its open fields (R61). -/
theorem requestFrame_of_frame {f : Frame} (h0 : f[0] = 0xAA) :
    requestFrame f[1] (framePayload f) (frameChecksum f) = f := by
  rw [requestFrame, params_marker, ← h0]
  exact frameOfFields_decodeFields f

/-- A frame with a listed response op_code is the response frame of its open fields (R62, R66). -/
theorem responseFrame_of_frame {f : Frame} {o : ListedOp} (h1 : listedResponse f[1] = some o) :
    responseFrame (opCode o) f[0] (framePayload f) (frameChecksum f) = f := by
  rw [responseFrame, rspOp_of_listedResponse h1]
  exact frameOfFields_decodeFields f

theorem wellFormed_requestRow (o : ListedOp) (p : Payload) (sum : Half) :
    WellFormed (requestRow o p sum) = true := by
  cases o <;> rfl

theorem wellFormed_responseRow (o : ListedOp) (m : Byte) (p : Payload) (sum : Half) :
    WellFormed (responseRow o m p sum) = true := by
  cases o <;> rfl

theorem encode_of_decodeFrame_request {f : Frame} {i : Instr} (h : decodeFrame .request f = .ok i) :
    WellFormed i = true ∧ encode i = .frame .request f := by
  rcases decodeFrame_request_cases f with ⟨_, e⟩ | ⟨h0, o, h1, e⟩ | ⟨h0, h1, e⟩ <;> rw [e] at h <;>
    cases h
  · refine ⟨wellFormed_requestRow o _ _, ?_⟩
    rw [encode_requestRow, opCode_of_listedRequest h1, requestFrame_of_frame h0]
  · exact ⟨Option.isNone_iff_eq_none.mpr h1, congrArg _ (requestFrame_of_frame h0)⟩

theorem encode_of_decodeFrame_response {f : Frame} {i : Instr}
    (h : decodeFrame .response f = .ok i) :
    WellFormed i = true ∧ encode i = .frame .response f := by
  rcases decodeFrame_response_cases f with ⟨o, h1, e⟩ | ⟨h1, e⟩ <;> rw [e] at h <;> cases h
  · refine ⟨wellFormed_responseRow o _ _ _, ?_⟩
    rw [encode_responseRow, responseFrame_of_frame h1]
  · exact ⟨Option.isNone_iff_eq_none.mpr h1, congrArg _ (frameOfFields_decodeFields f)⟩

/-- Settles O53: in each space the row taken keeps every byte of the frame. -/
theorem encodeOfDecode : Obligations.EncodeOfDecode := by
  intro d f i h
  cases d with
  | request => exact encode_of_decodeFrame_request h
  | response => exact encode_of_decodeFrame_response h

end Sys2Proof.Machine
end

section
/-! PROOFS of how a step reads the frames put before it (spec/30_encoding.md R61, R70, R74, R75):
which frame it refuses, and how a word of the opcode table is read. -/

namespace Sys2Proof.Machine

/-! ### Where a step refuses -/

/-- No stimulus is rejected but a request frame with a marker other than 0xAA (R61, R70). -/
theorem decode_eq_error_iff (ph : Phase) (x : Stimulus) (e : Reject) :
    decode ph x = .error e ↔
      ∃ f : Frame, x = .frame .request f ∧ f[0] ≠ 0xAA ∧ e = .notARequest f[0] := by
  constructor
  · intro h
    cases x with
    | frame d f =>
      cases d with
      | request =>
        rcases decodeFrame_request_cases f with ⟨h0, hd⟩ | ⟨_, _, _, hd⟩ | ⟨_, _, hd⟩ <;>
          simp only [decode, hd] at h <;> cases h
        exact ⟨f, rfl, h0, rfl⟩
      | response =>
        rcases decodeFrame_response_cases f with ⟨_, _, hd⟩ | ⟨_, hd⟩ <;>
          simp only [decode, hd] at h <;> cases h
    | ports p => cases h
    | line i => cases h
  · rintro ⟨f, rfl, h0, rfl⟩
    simp only [decode, decodeFrame_request_badMarker h0]

theorem readStimulus_eq_reject_iff (x : Stimulus) (rest : List Stimulus) (s : State) (r : Refusal) :
    readStimulus x rest s = .reject r ↔ ∃ e, decode s.phase x = .error e ∧ r = refusalOf e := by
  unfold readStimulus
  cases hd : decode s.phase x with
  | error e => simp [eq_comm]
  | ok o => cases o <;> simp

/-- A step refuses only what it reads: no operation refuses. -/
theorem step_eq_refused_iff (s : State) (r : Refusal) :
    step s = .refused r ↔ fetch s = .reject r := by
  unfold step
  cases hf : fetch s with
  | run i t => simp [exec_ne_refused]
  | wait t => simp
  | reject r' => simp

/-- A fetch rejects exactly when the script's head is read and rejected. -/
theorem fetch_eq_reject_iff (s : State) (r : Refusal) :
    fetch s = .reject r ↔ ∃ x rest, s.script = x :: rest ∧
      (returning s = true → resets x = true) ∧ readStimulus x rest s = .reject r := by
  constructor
  · intro h
    rcases fetch_cases s with ⟨hf, _, _⟩ | ⟨hf, _⟩ | ⟨x, rest, hs, hx, hf⟩ <;> rw [hf] at h
    · cases h
    · cases h
    · exact ⟨x, rest, hs, by rcases hx with hx | hx <;> simp [hx], h⟩
  · rintro ⟨x, rest, hs, hx, h⟩
    rw [fetch_eq_readStimulus hs hx, h]

/-- Settles O34: a step refuses what its fetch rejects, which is a request frame with another
marker, and such a frame is read only when no result is about to be taken. -/
theorem stepRefusesOnlyBadMarker : Obligations.StepRefusesOnlyBadMarker := by
  intro s r
  rw [step_eq_refused_iff, fetch_eq_reject_iff]
  constructor
  · rintro ⟨x, rest, hs, hx, h⟩
    obtain ⟨e, he, rfl⟩ := (readStimulus_eq_reject_iff x rest s r).mp h
    obtain ⟨f, rfl, h0, rfl⟩ := (decode_eq_error_iff s.phase x e).mp he
    refine ⟨f, rest, hs, h0, fun hsend hdone => ?_, rfl⟩
    cases hx ((returning_iff s).mpr ⟨hsend, hdone⟩)
  · rintro ⟨f, rest, hs, h0, hret, rfl⟩
    refine ⟨.frame .request f, rest, hs, fun h => ?_, ?_⟩
    · obtain ⟨hsend, hdone⟩ := (returning_iff s).mp h
      exact absurd hdone (hret hsend)
    · exact (readStimulus_eq_reject_iff ..).mpr
        ⟨_, (decode_eq_error_iff ..).mpr ⟨f, rfl, h0, rfl⟩, rfl⟩

/-! ### The words of the opcode table -/

/-- The bytes of one frame decode as the frame does, with none left over (R60). -/
theorem decodeBytes_toList (d : Direction) (f : Frame) :
    decodeBytes d f.toList = (decodeFrame d f).map (·, []) := by
  have hf : f.toList = [f[0], f[1], f[2], f[3], f[4], f[5], f[6], f[7]] := by
    conv_lhs => rw [← frame_eta f]
    rfl
  rw [hf]
  simp only [decodeBytes, frame_eta]
  cases decodeFrame d f <;> rfl

/-- A table word decodes as its frame does, in the direction in which it is read (R74; log 11). -/
theorem decodeTableWord_eq_some_iff {nbits w : Nat} {i : Instr} :
    decodeTableWord nbits w = some i ↔
      decodeFrame (directionOf (tableFrame nbits w)) (tableFrame nbits w) = .ok i := by
  unfold decodeTableWord
  generalize tableFrame nbits w = f
  simp only [decodeBytes_toList]
  cases decodeFrame (directionOf f) f <;> simp [Except.map]

/-- Settles O35: the placed frame is the script's head, and with no call of `SEND` in progress it is
what the next step reads. -/
theorem placedWordRunsNext : Obligations.PlacedWordRunsNext := by
  intro s nbits w i h
  have hd : decode s.phase (.frame (directionOf (tableFrame nbits w)) (tableFrame nbits w)) =
      .ok (some i) := decode_frame_of_ok s.phase (decodeTableWord_eq_some_iff.mp h)
  exact stepRunsDecoded (s.withFetchWord nbits w) _ s.script i rfl (fun hsend => nomatch hsend) hd

/-- A frame is the table frame of its own word (R9). -/
theorem tableFrame_frameWord (f : Frame) : tableFrame 64 (frameWord f).toNat = f := by
  rw [tableFrame, Nat.mod_eq_of_lt (frameWord f).isLt, BitVec.ofNat_toNat, BitVec.setWidth_eq,
    frameOfWord_frameWord]

/-- The op_codes of the two spaces do not meet (R69). -/
theorem listedRequest_rspOp (o : ListedOp) : listedRequest (rspOp (opCode o)) = none := by
  cases o <;> decide

theorem directionOf_requestFrame (o : ListedOp) (p : Payload) (sum : Half) :
    directionOf (requestFrame (opCode o) p sum) = .request := by
  simp [directionOf, requestFrame, listedRequest_opCode]

theorem directionOf_responseFrame (o : ListedOp) (m : Byte) (p : Payload) (sum : Half) :
    directionOf (responseFrame (opCode o) m p sum) = .response := by
  simp [directionOf, responseFrame, listedRequest_rspOp, listedResponse_rspOp]

/-- The word of every frame of a listed REQ row is read as that row. -/
theorem decodeTableWord_requestFrame (o : ListedOp) (p : Payload) (sum : Half) :
    decodeTableWord 64 (frameWord (requestFrame (opCode o) p sum)).toNat =
      some (requestRow o p sum) := by
  rw [decodeTableWord_eq_some_iff, tableFrame_frameWord, directionOf_requestFrame,
    decodeFrame_requestFrame]

/-- The word of every frame of a listed RSP row is read as that row, whatever its marker. -/
theorem decodeTableWord_responseFrame (o : ListedOp) (m : Byte) (p : Payload) (sum : Half) :
    decodeTableWord 64 (frameWord (responseFrame (opCode o) m p sum)).toNat =
      some (responseRow o m p sum) := by
  rw [decodeTableWord_eq_some_iff, tableFrame_frameWord, directionOf_responseFrame,
    decodeFrame_responseFrame]

/-- The request word of a listed command with every open bit 0, and its row (R61, R75). -/
def requestMatch (o : ListedOp) : Nat × Instr :=
  ((frameWord (requestFrame (opCode o) #v[0, 0, 0, 0] 0)).toNat, requestRow o #v[0, 0, 0, 0] 0)

/-- The response word of a listed command with every open bit 0, and its row (R62, R75). -/
def responseMatch (o : ListedOp) : Nat × Instr :=
  ((frameWord (responseFrame (opCode o) 0 #v[0, 0, 0, 0] 0)).toNat,
    responseRow o 0 #v[0, 0, 0, 0] 0)

theorem decodeTableWord_requestMatch :
    ∀ row ∈ listedOps.map requestMatch, decodeTableWord 64 row.1 = some row.2 :=
  List.forall_mem_map.mpr fun o _ => decodeTableWord_requestFrame o _ _

theorem decodeTableWord_responseMatch :
    ∀ row ∈ listedOps.map responseMatch, decodeTableWord 64 row.1 = some row.2 :=
  List.forall_mem_map.mpr fun o _ => decodeTableWord_responseFrame o 0 _ _

/-- Settles O55: each match value of R75 is the word of its listed row's frame with the open fields
0, which is read as that row; the six frames of 95_test_vectors are evaluated. -/
theorem specWordsDecode : Obligations.SpecWordsDecode := by
  unfold Obligations.SpecWordsDecode
  refine List.forall_mem_append.mpr ⟨List.forall_mem_append.mpr ⟨?_, ?_⟩, ?_⟩
  · decide +kernel
  · exact decodeTableWord_requestMatch
  · exact decodeTableWord_responseMatch

end Sys2Proof.Machine
end

section
/-! PROOFS of the numbers of the encoding (spec/30_encoding.md R65 to R67): the response op_code,
the op_code table, and the byte order of the checksum. -/

namespace Sys2Proof.Machine

theorem rspOp_eq_sub (x : OpCode) : rspOp x = x - 129 := by
  simp only [rspOp, params_rspOffset]
  bv_omega

theorem rspOp_toNat (x : OpCode) : (rspOp x).toNat = (x.toNat + 127) % 256 := by
  simp [rspOp]

/-- Settles O12: adding 127 is subtracting 129 modulo 256, and `r + 129` takes it back. -/
theorem responseOpIsBijection : Obligations.ResponseOpIsBijection := by
  refine ⟨fun x => ⟨rspOp_toNat x, rspOp_eq_sub x⟩, fun r x => ?_, by decide⟩
  rw [rspOp_eq_sub, sub_eq_iff_eq_add]

/-- Settles O13: the list is read off, and a command whose op_code is found in it is a member. -/
theorem opCodesAreR67 : Obligations.OpCodesAreR67 :=
  ⟨by decide, fun o => List.mem_of_find?_eq_some (listedRequest_opCode o)⟩

/-- `F[6] + 256 * F[7]` is the word `{F[7], F[6]}` (R65). -/
theorem frameChecksum_toNat (f : Frame) :
    (frameChecksum f).toNat = f[6].toNat + 256 * f[7].toNat := by
  have h : (frameChecksum f).toNat = f[7].toNat <<< 8 ||| f[6].toNat := BitVec.toNat_append ..
  rw [h, ← Nat.shiftLeft_add_eq_or_of_lt f[6].isLt, Nat.shiftLeft_eq]
  omega

/-- Settles O14: the checksum's two bytes stand low byte first, both ways. -/
theorem checksumIsLittleEndian : Obligations.ChecksumIsLittleEndian := by
  refine ⟨?_, fun f => ⟨rfl, frameChecksum_toNat f⟩⟩
  intro op p f c
  have hc : c = crc6 (requestMessage op p) := rfl
  constructor
  · rw [hc]; exact frameOfFields_6 _
  · rw [hc]; exact frameOfFields_7 _

end Sys2Proof.Machine
end

section
/-! PROOFS of the checksum unit (spec/40_crc_unit.md R81 to R85): one bit, one byte in both forms,
the linearity of the whole, and the check of a frame. One fact carries it: a bit step is linear over
XOR in the register and the bit together (`crcBit_xor`). -/

namespace Sys2Proof.Machine

/-! ### What the four rows answer -/

theorem exec_crcBit (c : Half) (d : Bool) (s : State) :
    exec (.crcBit c d) s = .next (giveAnswer (.word (crcBit c d)) s) := rfl

theorem exec_crcByte (c : Half) (b : Byte) (s : State) :
    exec (.crcByte c b) s = .next (giveAnswer (.word (crcByte c b)) s) := rfl

theorem exec_crc6 (m : Message) (s : State) :
    exec (.crc6 m) s = .next (giveAnswer (.word (crc6 m)) s) := rfl

theorem exec_crcCheck (f : Frame) (s : State) :
    exec (.crcCheck f) s = .next (giveAnswer (.bit (crcCheck f)) s) := rfl

/-! ### One bit -/

theorem crcBit_eq_ite (c : Half) (d : Bool) :
    crcBit c d = if c.msb ^^ d then (c <<< 1) ^^^ 0x1021 else c <<< 1 := rfl

/-- The conditional shift of form 2 is the bit step of form 1 with message bit 0 (R81, R82). -/
theorem crcShift_eq_crcBit (c : Half) : crcShift c = crcBit c false := by
  rw [crcBit_eq_ite, Bool.xor_false]; rfl

/-- The shift, with the polynomial XORed in as the feedback selects. -/
theorem crcBit_eq_shift_xor (c : Half) (d : Bool) :
    crcBit c d = (c <<< 1) ^^^ (if c.msb ^^ d then 0x1021 else 0) := by
  rw [crcBit_eq_ite]
  split
  · rfl
  · exact BitVec.xor_zero.symm

/-- A bit step is linear: so are the shift, the feedback and the selection by it. -/
theorem crcBit_xor (c c' : Half) (d d' : Bool) :
    crcBit (c ^^^ c') (d ^^ d') = crcBit c d ^^^ crcBit c' d' := by
  have feedback : ((c ^^^ c').msb ^^ (d ^^ d')) = ((c.msb ^^ d) ^^ (c'.msb ^^ d')) := by
    simp only [BitVec.msb_xor, Bool.xor_assoc, Bool.xor_left_comm]
  have selection : ∀ f g : Bool, (if f ^^ g then 0x1021 else 0 : Half) =
      (if f then 0x1021 else 0) ^^^ (if g then 0x1021 else 0) := by decide
  simp only [crcBit_eq_shift_xor, feedback, selection, BitVec.shiftLeft_xor_distrib]
  ac_rfl

/-- Settles O1: bit 15 is the register's top bit. -/
theorem crcBitShiftsOneBit : Obligations.CrcBitShiftsOneBit := by
  intro c d s
  rw [exec_crcBit, crcBit_eq_ite, BitVec.msb_eq_getLsbD_last]
  rfl

/-! ### One byte, in both forms -/

theorem msb_halfOfBytes_zero (b : Byte) : (halfOfBytes b 0).msb = b.msb := by
  rw [BitVec.msb_eq_getLsbD_last, getLsbD_halfOfBytes, BitVec.msb_eq_getLsbD_last]
  rfl

theorem halfOfBytes_zero_toNat (b : Byte) : (halfOfBytes b 0).toNat = b.toNat * 2 ^ 8 := by
  rw [← Nat.shiftLeft_eq]
  exact (BitVec.toNat_append b (0 : Byte)).trans (Nat.or_zero _)

theorem halfOfBytes_zero_shiftLeft_one (b : Byte) :
    halfOfBytes b 0 <<< 1 = halfOfBytes (b <<< 1) 0 := by
  apply BitVec.eq_of_toNat_eq
  simp only [BitVec.toNat_shiftLeft, halfOfBytes_zero_toNat, Nat.shiftLeft_eq]
  omega

/-- A byte in the top of an empty register meets its own feedback: its leading bit leaves with no
reduction. -/
theorem crcBit_halfOfBytes_zero (b : Byte) :
    crcBit (halfOfBytes b 0) b.msb = halfOfBytes (b <<< 1) 0 := by
  rw [crcBit_eq_ite, msb_halfOfBytes_zero, Bool.xor_self, ← halfOfBytes_zero_shiftLeft_one]
  rfl

/-- One step of form 2 is one step of form 1 beside what is left of the byte (R82). -/
theorem crcShift_xor_halfOfBytes (c : Half) (b : Byte) :
    crcShift (c ^^^ halfOfBytes b 0) = crcBit c b.msb ^^^ halfOfBytes (b <<< 1) 0 := by
  rw [← crcBit_halfOfBytes_zero, ← crcBit_xor, Bool.xor_self, crcShift_eq_crcBit]

/-- After `n` steps of both forms the registers differ in the bits of `b` not yet absorbed. -/
theorem crcShift_iterate_xor_halfOfBytes (c : Half) (b : Byte) (n : Nat) (h : n ≤ 8) :
    crcShift^[n] (c ^^^ halfOfBytes b 0) =
      (List.range n).foldl (fun c i => crcBit c (b.getLsbD (7 - i))) c ^^^
        halfOfBytes (b <<< n) 0 := by
  induction n with
  | zero => simp
  | succ n ih =>
    have next : (b <<< n).msb = b.getLsbD (7 - n) := by
      simp [BitVec.msb_shiftLeft, BitVec.getMsbD_eq_getLsbD, show n < 8 by omega]
    rw [Function.iterate_succ_apply', ih (by omega), crcShift_xor_halfOfBytes, next,
      List.range_succ, List.foldl_append, ← BitVec.shiftLeft_add]
    rfl

theorem crcByteShifted_eq_crcByte (c : Half) (b : Byte) : crcByteShifted c b = crcByte c b := by
  have h := crcShift_iterate_xor_halfOfBytes c b 8 (Nat.le_refl 8)
  have spent : halfOfBytes (b <<< 8) 0 = 0 := by
    rw [BitVec.shiftLeft_eq_zero (Nat.le_refl 8)]; rfl
  rw [spent] at h
  exact h.trans BitVec.xor_zero

/-- Settles O2: after eight steps the two forms differ in no bit of the byte. -/
theorem crcByteFormsAgree : Obligations.CrcByteFormsAgree := by
  intro c b s
  rw [crcByteShifted_eq_crcByte]
  exact exec_crcByte c b s

/-! ### Messages -/

theorem crcByte_xor (c c' : Half) (b b' : Byte) :
    crcByte (c ^^^ c') (b ^^^ b') = crcByte c b ^^^ crcByte c' b' := by
  unfold crcByte
  generalize [7, 6, 5, 4, 3, 2, 1, 0] = is
  induction is generalizing c c' with
  | nil => rfl
  | cons i is ih => rw [List.foldl_cons, BitVec.getLsbD_xor, crcBit_xor, ih]; rfl

theorem foldl_crcByte_zipWith_xor (a b : List Byte) (h : a.length = b.length) (c c' : Half) :
    (List.zipWith (· ^^^ ·) a b).foldl crcByte (c ^^^ c') =
      a.foldl crcByte c ^^^ b.foldl crcByte c' := by
  induction a generalizing b c c' with
  | nil => cases b with
    | nil => rfl
    | cons y b => cases h
  | cons x a ih => cases b with
    | nil => cases h
    | cons y b =>
      rw [List.zipWith_cons_cons, List.foldl_cons, crcByte_xor, ih b (Nat.succ.inj h)]
      rfl

/-- Settles O4: every byte step is linear, and the register starts at 0, which is `0 ^^^ 0`. -/
theorem crc16IsLinear : Obligations.Crc16IsLinear := by
  intro a b h
  simp only [crc16_eq_foldl]
  exact foldl_crcByte_zipWith_xor a b h 0 0

/-- Six bytes taken out of a message and put back are the message. -/
theorem message_eta (m : Message) : (#v[m[0], m[1], m[2], m[3], m[4], m[5]] : Message) = m := by
  ext i hi
  match i, hi with
  | 0, _ | 1, _ | 2, _ | 3, _ | 4, _ | 5, _ => rfl

theorem message_toList (m : Message) : m.toList = [m[0], m[1], m[2], m[3], m[4], m[5]] :=
  congrArg Vector.toList (message_eta m).symm

/-- Settles O3: the message is its six bytes, and `crc16` is the plain loop over them. -/
theorem crc6AbsorbsSixBytes : Obligations.Crc6AbsorbsSixBytes := by
  intro m s
  rw [exec_crc6, crc6, crc16_eq_foldl, message_toList]
  rfl

/-! ### The check -/

/-- `CRC.CHECK` is the comparison of R84, with the stored word `{F[7], F[6]}` of R65. -/
theorem crcCheck_eq_decide (f : Frame) :
    crcCheck f = decide (crc16 [f[0], f[1], f[2], f[3], f[4], f[5]] = f[7] ++ f[6]) := rfl

/-- Settles O5: the recomputed word is compared with the stored one, and no register takes part. -/
theorem crcCheckComparesRecomputed : Obligations.CrcCheckComparesRecomputed := by
  intro f s
  rw [exec_crcCheck, crcCheck_eq_decide]
  rfl

theorem frameMessage_encodeFrame (op : OpCode) (p : Payload) :
    frameMessage (encodeFrame op p) = requestMessage op p := rfl

theorem frameChecksum_encodeFrame (op : OpCode) (p : Payload) :
    frameChecksum (encodeFrame op p) = crc6 (requestMessage op p) :=
  frameChecksum_frameOfFields _

theorem crcCheck_encodeFrame (op : OpCode) (p : Payload) : crcCheck (encodeFrame op p) = true := by
  rw [crcCheck, frameMessage_encodeFrame, frameChecksum_encodeFrame, beq_self_eq_true]

/-- Settles O6: the stored checksum is the one `Encode` computed over the same six bytes. -/
theorem encodedFramePassesCheck : Obligations.EncodedFramePassesCheck := by
  intro op p s
  refine ⟨crcCheck_encodeFrame op p, ?_⟩
  rw [exec_crcCheck, crcCheck_encodeFrame]
  rfl

end Sys2Proof.Machine
end

section
/-! PROOFS of the frame serializer (spec/41_frame_serializer.md R90 to R95): the encoded request frame,
the command that starts an exchange and the bytes it emits, and the request kept for the exchange. -/

namespace Sys2Proof.Machine

/-! ### `Encode` -/

/-- `Encode` is the request frame with the checksum computed (R61, R90). -/
theorem encodeFrame_eq_requestFrame (op : OpCode) (p : Payload) :
    encodeFrame op p = requestFrame op p (crc6 (requestMessage op p)) := rfl

/-- The op_code is read back from an encoded frame (R90). -/
theorem encodeFrame_opCode (op : OpCode) (p : Payload) : (encodeFrame op p)[1] = op := rfl

/-- The bytes covered by the checksum of a frame with the fixed marker are a request's (R83, R84). -/
theorem frameMessage_eq_requestMessage {f : Frame} (h0 : f[0] = 0xAA) :
    frameMessage f = requestMessage f[1] (framePayload f) := by
  rw [requestMessage, params_marker, ← h0]
  rfl

theorem crcCheck_iff (f : Frame) : crcCheck f = true ↔ crc6 (frameMessage f) = frameChecksum f :=
  beq_iff_eq

/-- A frame with the fixed marker and a matching checksum is the encoding of its open fields (R95). -/
theorem encodeFrame_of_crcCheck {f : Frame} (h0 : f[0] = 0xAA) (hc : crcCheck f = true) :
    encodeFrame f[1] (framePayload f) = f := by
  rw [encodeFrame_eq_requestFrame, ← frameMessage_eq_requestMessage h0, (crcCheck_iff f).mp hc,
    requestFrame_of_frame h0]

/-- Settles O8: the op_code and the payload are read back from the frame, and a frame of the image is
encoded from the fields it holds. -/
theorem encodeInjectiveWithImage : Obligations.EncodeInjectiveWithImage := by
  refine ⟨fun op op' p p' h => ⟨?_, ?_⟩, fun f => ⟨?_, fun ⟨h0, hc⟩ => ?_⟩⟩
  · rw [← encodeFrame_opCode op p, h, encodeFrame_opCode]
  · rw [← framePayload_encodeFrame op p, h, framePayload_encodeFrame]
  · rintro ⟨op, p, rfl⟩
    exact ⟨rfl, crcCheck_encodeFrame op p⟩
  · exact ⟨f[1], framePayload f, encodeFrame_of_crcCheck h0 hc⟩

theorem exec_encode (op : Byte) (p : Payload) (sum : Half) (s : State) :
    exec (.encode op p sum) s = .next (giveAnswer (.frame (encodeFrame op p)) s) := rfl

/-- The eight bytes of an encoded frame, its checksum low byte first (R42, R90). -/
theorem encodeFrame_bytes (op : OpCode) (p : Payload) :
    encodeFrame op p = #v[0xAA, op, p[0], p[1], p[2], p[3],
      lowByte (crc16 [0xAA, op, p[0], p[1], p[2], p[3]]),
      highByte (crc16 [0xAA, op, p[0], p[1], p[2], p[3]])] := rfl

/-- Settles O7: the row shows the encoded frame, which is read off byte by byte. -/
theorem encodeBuildsFrame : Obligations.EncodeBuildsFrame := by
  intro op p sum s
  rw [exec_encode, encodeFrame_bytes]
  rfl

/-! ### The command -/

theorem exec_cmd (op : Byte) (p : Payload) (s : State) :
    exec (.cmd op p) s = issueCommand op p s := rfl

theorem issueCommand_of_idle {s : State} (op : Byte) (p : Payload) (hp : s.phase = .idle) :
    issueCommand op p s = .next (accept op p s) := by
  rcases issueCommand_cases op p s with ⟨_, e⟩ | ⟨hne, _⟩
  · exact e
  · exact absurd hp hne

theorem issueCommand_of_ne_idle {s : State} (op : Byte) (p : Payload) (hp : s.phase ≠ .idle) :
    issueCommand op p s = .next s := by
  rcases issueCommand_cases op p s with ⟨hidle, _⟩ | ⟨_, e⟩
  · exact absurd hidle hp
  · exact e

/-- Settles O20: `CMD` is the accepted command in IDLE and does not fire elsewhere. -/
theorem cmdStartsExchange : Obligations.CmdStartsExchange := by
  intro op p s
  rw [exec_cmd]
  exact ⟨issueCommand_of_idle op p, issueCommand_of_ne_idle op p⟩

/-- `cmd_valid` selects the command in IDLE when neither `rst` nor `clear` is 1; `io_abort` does not
block it there (R28, R195). -/
theorem select_cmd {p : Pins} (hr : p.rst = false) (hc : p.clear = false)
    (hv : p.cmdValid = true) :
    select .idle p = some (.cmd p.cmdOp (unpackPayload p.cmdPayload)) := by
  simp [select, handshake, inFlight, hr, hc, hv]

/-- Settles O51: the step runs the command its port sample selects, which IDLE accepts. -/
theorem commandFromPorts : Obligations.CommandFromPorts := by
  intro p rest s hs hp hr hc hv
  have hnr : s.inSend = true → s.phase = .done → resets (.ports p) = true :=
    fun _ hdone => absurd (hp.symm.trans hdone) (by decide)
  have hd : decode s.phase (.ports p) =
      .ok (some (.cmd p.cmdOp (unpackPayload p.cmdPayload))) := by
    rw [hp, decode, select_cmd hr hc hv]
  rw [stepRunsDecoded s (.ports p) rest _ hs hnr hd, exec_cmd]
  exact issueCommand_of_idle (s := consume rest s) _ _ hp

/-! ### The bytes of the request -/

theorem exec_txb (s : State) : exec .txb s = transmitByte s := rfl

/-- Settles O21: a byte of `TXBUF` is sent where the count is in range, the eighth starts the
reception, and outside TX nothing fires. -/
theorem txbEmitsNextByte : Obligations.TxbEmitsNextByte := by
  intro s
  rw [exec_txb]
  refine ⟨fun h hp => ?_, fun h7 hp => ?_, fun h8 hp => transmitByte_of_tx_ge hp h8,
    transmitByte_of_ne_tx⟩
  · rw [transmitByte_of_tx hp (by omega), advanceTx_before _ _ _ (by omega)]
  · rw [transmitByte_of_tx hp (by omega)]
    simp only [h7, advanceTx_last]

/-! ### The request kept -/

/-- Every operation that starts and ends outside IDLE keeps the request: of the ways an operation can
go, an accepted command starts in IDLE and a release ends there (R50, R93). -/
theorem exec_keeps_request {i : Instr} {s t : State} (h : exec i s = .next t)
    (hs : s.phase ≠ .idle) (ht : t.phase ≠ .idle) : t.txbuf = s.txbuf ∧ t.reqOp = s.reqOp := by
  cases exec_fires i h with
  | quiet => exact ⟨rfl, rfl⟩
  | accepted op p b hi hp => exact absurd hp hs
  | sent => exact ⟨advanceTx_txbuf _ _ s, advanceTx_reqOp _ _ s⟩
  | stored => exact ⟨advanceRx_txbuf _ _ _ s, advanceRx_reqOp _ _ _ s⟩
  | returned => exact ⟨rfl, rfl⟩
  | aborted => exact ⟨rfl, rfl⟩
  | released => exact absurd rfl ht

/-- Settles O42: reading the script writes neither `TXBUF` nor `REQ_OP`, and the one operation a step
runs keeps the request. -/
theorem requestIsImmutable : Obligations.RequestIsImmutable := by
  intro s t h hs ht
  rcases step_next s t h with (rfl | ⟨rest, rfl⟩) | ⟨i, u, hi, rfl | ⟨rest, rfl⟩⟩
  · exact ⟨rfl, rfl⟩
  · exact ⟨rfl, rfl⟩
  · exact exec_keeps_request (s := tick s) hi hs ht
  · exact exec_keeps_request (s := consume rest s) hi hs ht

end Sys2Proof.Machine
end

section
/-! PROOFS of the frame deserializer (spec/42_frame_deserializer.md R100 to R104): `Decode` and its
inverse, the bytes of the response stored one by one, and a whole response frame received and
judged. -/

namespace Sys2Proof.Machine

/-! ### `Decode` -/

/-- The fields are read back from the frame assembled of them (R101, R103). -/
@[simp] theorem decodeFields_frameOfFields (d : Fields) : decodeFields (frameOfFields d) = d := by
  simp only [decodeFields, framePayload_frameOfFields, frameChecksum_frameOfFields,
    frameOfFields_0, frameOfFields_1]

/-- Settles O10: the two round trips of the frame map. -/
theorem decodeIsBijective : Obligations.DecodeIsBijective :=
  ⟨frameOfFields_decodeFields, decodeFields_frameOfFields⟩

theorem exec_decode (m op : Byte) (p : Payload) (sum : Half) (s : State) :
    exec (.decode m op p sum) s = .next (giveAnswer (.fields (decodeFields
      (frameOfFields { marker := m, opCode := op, payload := p, checksum := sum }))) s) := rfl

/-- Settles O9: the four fields are read off byte by byte, and the row decodes the frame assembled
of its operands. -/
theorem decodeSplitsFrame : Obligations.DecodeSplitsFrame := by
  refine ⟨fun f => rfl, fun m op p sum s => ?_⟩
  rw [exec_decode, decodeFields_frameOfFields]
  rfl

/-- `Encode` assembles a frame, so `Decode` gives back the fields it assembled (R104). -/
theorem decodeFields_encodeFrame (op : OpCode) (p : Payload) :
    decodeFields (encodeFrame op p) =
      { marker := 0xAA, opCode := op, payload := p, checksum := crc6 (requestMessage op p) } :=
  decodeFields_frameOfFields _

/-- Settles O11: `Decode` gives back the fields of the request, whose checksum is the one
`CRC.CHECK` recomputes. -/
theorem decodeOfEncodedFrame : Obligations.DecodeOfEncodedFrame := fun op p =>
  ⟨decodeFields_encodeFrame op p, (crcCheck_iff (encodeFrame op p)).mp (crcCheck_encodeFrame op p)⟩

/-! ### The bytes of the response -/

theorem exec_rxb (b : Byte) (s : State) : exec (.rxb b) s = receiveByte b s := rfl

/-- Settles O22: a byte is stored where the count is in range, the eighth ends the exchange with the
verdict, and outside RX nothing fires. -/
theorem rxbStoresNextByte : Obligations.RxbStoresNextByte := by
  intro b s
  rw [exec_rxb]
  refine ⟨fun h hp => ?_, fun h7 hp => ?_, fun h8 hp => receiveByte_of_rx_ge b hp h8,
    receiveByte_of_ne_rx b⟩
  · rw [receiveByte_of_rx b hp (by omega), advanceRx_before _ _ _ _ (by omega)]
  · rw [receiveByte_of_rx b hp (by omega)]
    simp only [h7, advanceRx_last]

/-- In RX no call of `SEND` is about to take a result, so a step runs what the script's head decodes
to (R119). -/
theorem step_of_rx {s : State} {x : Stimulus} {rest : List Stimulus} {i : Instr}
    (hp : s.phase = .rx) (hs : s.script = x :: rest) (hd : decode s.phase x = .ok (some i)) :
    step s = exec i (consume rest s) :=
  stepRunsDecoded s x rest i hs (fun _ hdone => absurd (hp.symm.trans hdone) (by decide)) hd

/-- A step that reads an `RXB` line in RX stores its byte (R72, R100). -/
theorem step_rxb_of_rx {s : State} {b : Byte} {rest : List Stimulus} (hp : s.phase = .rx)
    (h : s.rxCnt < 8) (hs : s.script = .line (.rxb b) :: rest) :
    step s = .next (advanceRx s.rxCnt b (s.rxbuf.set s.rxCnt b) (consume rest s)) := by
  rw [step_of_rx hp hs rfl, exec_rxb]
  exact receiveByte_of_rx (s := consume rest s) b hp h

/-! ### The rest of a frame -/

/-- In RX the first `n` bytes of the response `f` are stored, and its other bytes are what the
environment does next, before `rest` (R25, R26, R100). -/
structure AwaitsBytes (f : Frame) (n : Nat) (rest : List Stimulus) (s : State) : Prop where
  phase : s.phase = .rx
  count : s.rxCnt = n
  stored : ∀ (i : Nat) (_ : i < 8), i < n → s.rxbuf[i] = f[i]
  script : s.script = rxbLines (f.toList.drop n) ++ rest

/-- The state after `s` once the bytes of `f` from offset `n` on have come, one a step, and the last
of them has ended the exchange with the verdict on `f` (R100). -/
def receiveRest (f : Frame) (n : Nat) (rest : List Stimulus) (s : State) : State :=
  { s with
    rxbuf  := f
    heard  := s.heard ++ f.toList.drop n
    rxCnt  := 8
    result := validate s.reqOp f
    phase  := .done
    script := rest
    draws  := s.draws + (8 - n) }

/-- The state after `s` once the byte of `f` at offset `n` has come and is stored. -/
def receiveNext (f : Frame) (n : Nat) (h : n < 8) (rest : List Stimulus) (s : State) : State :=
  advanceRx n f[n] (s.rxbuf.set n f[n]) (consume (rxbLines (f.toList.drop (n + 1)) ++ rest) s)

theorem toList_drop_eq_cons (f : Frame) {n : Nat} (h : n < 8) :
    f.toList.drop n = f[n] :: f.toList.drop (n + 1) := by
  rw [List.drop_eq_getElem_cons (by simpa using h)]
  simp

theorem toList_drop_eight (f : Frame) : f.toList.drop 8 = [] :=
  List.drop_eq_nil_of_le (by simp)

section
variable {f : Frame} {n : Nat} {rest : List Stimulus} {s : State}

/-- The byte stored next joins those stored before it. -/
theorem AwaitsBytes.set_getElem (hs : AwaitsBytes f n rest s) (h : n < 8) {i : Nat} (hi : i < 8)
    (hin : i < n + 1) : (s.rxbuf.set n f[n])[i] = f[i] := by
  rw [Vector.getElem_set]
  split
  next hni => subst hni; rfl
  next hni => exact hs.stored i hi (by omega)

theorem AwaitsBytes.step_eq (hs : AwaitsBytes f n rest s) (h : n < 8) :
    step s = .next (receiveNext f n h rest s) := by
  obtain ⟨hp, rfl, -, hscript⟩ := hs
  rw [toList_drop_eq_cons f h] at hscript
  exact step_rxb_of_rx hp h hscript

/-- Before the eighth byte the block goes on waiting for the bytes after the one stored. -/
theorem AwaitsBytes.succ (hs : AwaitsBytes f n rest s) (h : n < 7) :
    AwaitsBytes f (n + 1) rest (receiveNext f n (by omega) rest s) := by
  unfold receiveNext
  rw [advanceRx_before _ _ _ _ (by omega)]
  exact ⟨hs.phase, rfl, fun i hi hin => hs.set_getElem (by omega) hi hin, rfl⟩

/-- The eighth byte completes the frame, and the verdict is on the whole of it (R46, R100). -/
theorem AwaitsBytes.receiveNext_last (hs : AwaitsBytes f 7 rest s) :
    receiveNext f 7 (by decide) rest s = receiveRest f 7 rest s := by
  have hbuf : s.rxbuf.set 7 f[7] = f := Vector.ext fun i hi => hs.set_getElem (by decide) hi hi
  have hdrop : f.toList.drop 7 = [f[7]] := by
    rw [toList_drop_eq_cons f (by decide), toList_drop_eight]
  rw [receiveNext, advanceRx_last, hbuf, toList_drop_eight, receiveRest, hdrop]
  rfl

/-- Receiving one byte and then the others is receiving them all. -/
theorem receiveRest_receiveNext (h : n < 7) :
    receiveRest f (n + 1) rest (receiveNext f n (by omega) rest s) = receiveRest f n rest s := by
  have hdraws : s.draws + 1 + (8 - (n + 1)) = s.draws + (8 - n) := by omega
  simp only [receiveNext, advanceRx_before _ _ _ _ (show n + 1 ≠ 8 by omega), receiveRest,
    consume_draws, consume_heard, hdraws, toList_drop_eq_cons f (show n < 8 by omega),
    List.append_assoc, List.singleton_append]
  rfl

/-- One step a byte, the bytes still to come fill `RXBUF` and end the exchange with the verdict
(R100). -/
theorem AwaitsBytes.run_eq {k : Nat} (hs : AwaitsBytes f n rest s) (hk : n + k = 7) :
    run (k + 1) s = .next (receiveRest f n rest s) := by
  rw [run_succ k s _ (hs.step_eq (by omega))]
  induction k generalizing n s with
  | zero =>
    obtain rfl : n = 7 := hk
    rw [hs.receiveNext_last, run_zero]
  | succ k ih =>
    have hn : n < 7 := by omega
    have hnext := hs.succ hn
    rw [run_succ k _ _ (hnext.step_eq (by omega)), ih hnext (by omega),
      receiveRest_receiveNext hn]

end

/-! ### A response frame in the script -/

/-- `s` with the eight `RXB` lines that bring the bytes of `f` in order before `rest` (R72). -/
def spellOut (f : Frame) (rest : List Stimulus) (s : State) : State :=
  { s with script := rxbLines f.toList ++ rest }

/-- A step that reads a listed response frame in RX stores its first byte and leaves the other seven
to come, as a step does that reads the first of the `RXB` lines of that frame (R72, R119; log 10). -/
theorem step_responseFrame {o : ListedOp} {m : Byte} {p : Payload} {sum : Half}
    {rest : List Stimulus} {s : State} (hp : s.phase = .rx)
    (hs : s.script = .frame .response (responseFrame (opCode o) m p sum) :: rest) :
    step s = step (spellOut (responseFrame (opCode o) m p sum) rest s) := by
  have hline : step (spellOut (responseFrame (opCode o) m p sum) rest s) = exec (.rxb m) _ :=
    step_of_rx hp rfl rfl
  rw [hline, step_of_rx hp hs (decode_responseFrame s.phase o m p sum), exec_responseRow, exec_rxb]
  rfl

/-- Runs whose first steps are the same are the same. -/
theorem run_congr_of_step_eq {s t : State} (k : Nat) (h : step s = step t) :
    run (k + 1) s = run (k + 1) t := by
  have h : core.step s = core.step t := h
  simp only [run, Host.Core.run, h]
  rfl

/-- Settles O30: the frame is read as the eight `RXB` lines of its bytes, of which none has come. -/
theorem responseFrameIsJudged : Obligations.ResponseFrameIsJudged := by
  intro o m p sum rest s f hp h0 hs
  have hspelled : AwaitsBytes f 0 rest (spellOut f rest s) :=
    ⟨hp, h0, fun i _ hi => absurd hi (Nat.not_lt_zero i), rfl⟩
  rw [run_congr_of_step_eq 7 (step_responseFrame hp hs)]
  exact hspelled.run_eq rfl

end Sys2Proof.Machine
end

section
/-! PROOFS of the validator (spec/43_validator_and_exchange.md R110 to R116): its three rows, what each
verdict means, and that no single-bit change of a frame that passes goes unnoticed. -/

namespace Sys2Proof.Machine

/-! ### What the three rows answer -/

theorem exec_opchk (x r : Byte) (s : State) :
    exec (.opchk x r) s = .next (giveAnswer (.bit (opchk x r)) s) := rfl

theorem exec_cschk (f : Frame) (s : State) :
    exec (.cschk f) s = .next (giveAnswer (.bit (cschk f)) s) := rfl

theorem exec_validate (x : Byte) (f : Frame) (s : State) :
    exec (.validate x f) s = .next (giveAnswer (.verdict (validate x f)) s) := rfl

/-- The op_code test in numbers (R66, R110). -/
theorem opchk_eq_decide (x r : OpCode) :
    opchk x r = decide (r.toNat = (x.toNat + 127) % 256) := by
  simp only [opchk, ← rspOp_toNat, BitVec.toNat_inj]
  rfl

/-- Settles O15: the row compares the two op_codes as numbers, and no register takes part. -/
theorem opchkComparesEcho : Obligations.OpchkComparesEcho := by
  intro x r s
  rw [exec_opchk, opchk_eq_decide]
  rfl

/-- Settles O16: `CSCHK` is `CRC.CHECK`, in which no request takes part. -/
theorem cschkUsesNoRequest : Obligations.CschkUsesNoRequest := by
  intro f s
  rw [exec_cschk, cschk, crcCheck_eq_decide]
  rfl

/-! ### The three verdicts -/

theorem opchk_iff (x r : OpCode) : opchk x r = true ↔ r = rspOp x := beq_iff_eq

/-- The verdict as the chain of the two tests, the op_code test first (R112). -/
theorem validate_eq_ite (x : OpCode) (f : Frame) :
    validate x f = if f[1] ≠ rspOp x then .protocolMismatch
      else if crcCheck f = false then .checksumError else .ok := by
  simp only [validate, cschk, Bool.eq_false_iff, ne_eq, opchk_iff]

/-- A response with another op_code is a mismatch, whatever its checksum (R112). -/
theorem validate_of_opCode_ne {x : OpCode} {f : Frame} (h1 : f[1] ≠ rspOp x) :
    validate x f = .protocolMismatch := by
  rw [validate_eq_ite, if_pos h1]

/-- With the right op_code the checksum decides (R112). -/
theorem validate_of_crcCheck_eq_false {x : OpCode} {f : Frame} (h1 : f[1] = rspOp x)
    (hc : crcCheck f = false) : validate x f = .checksumError := by
  rw [validate_eq_ite, if_neg (not_not.mpr h1), if_pos hc]

/-- OK is both tests passed (R113). -/
theorem validate_eq_ok_iff (x : OpCode) (f : Frame) :
    validate x f = .ok ↔ f[1] = rspOp x ∧ crcCheck f = true := by
  rw [validate_eq_ite]
  split
  next h1 => simp [h1]
  next h1 =>
    rw [not_not] at h1
    cases crcCheck f <;> simp [h1]

/-- The validator never gives IO_ERROR (R112, R165). -/
theorem validate_ne_ioError (x : OpCode) (f : Frame) : validate x f ≠ .ioError := by
  rw [validate_eq_ite]
  split
  · decide
  · split <;> decide

/-- Settles O17: the chain of the two tests, in the numbers and words of the rule. -/
theorem validateTestsOpCodeFirst : Obligations.ValidateTestsOpCodeFirst := by
  intro x f s
  rw [exec_validate, validate_eq_ite, crcCheck_eq_decide]
  simp only [ne_eq, ← BitVec.toNat_inj, rspOp_toNat, decide_eq_false_iff_not]
  rfl

/-- A frame assembled with the checksum over its own six bytes passes the check, whatever its
marker (R84, R116). -/
theorem crcCheck_frameOfFields {d : Fields}
    (hd : d.checksum = crc16 [d.marker, d.opCode, d.payload[0], d.payload[1], d.payload[2],
      d.payload[3]]) : crcCheck (frameOfFields d) = true := by
  rw [crcCheck_iff, frameChecksum_frameOfFields, hd]
  rfl

/-- Settles O18: OK is the two tests, and the frame assembled with any marker passes both. -/
theorem validateIgnoresMarker : Obligations.ValidateIgnoresMarker :=
  ⟨validate_eq_ok_iff, fun x _ _ => (validate_eq_ok_iff x _).mpr ⟨rfl, crcCheck_frameOfFields rfl⟩⟩

/-! ### Single-bit changes -/

/-- The recomputed checksum XOR the stored one: 0 exactly for a frame that passes the check (R84). -/
def syndrome (f : Frame) : Half := crc6 (frameMessage f) ^^^ frameChecksum f

theorem crcCheck_iff_syndrome (f : Frame) : crcCheck f = true ↔ syndrome f = 0#16 := by
  rw [crcCheck_iff, syndrome]
  exact BitVec.xor_eq_zero_iff.symm

/-- Byte by byte, the frame of the XOR of two words is the XOR of their frames (R9). -/
theorem frameOfWord_xor (v w : FrameWord) :
    frameOfWord (v ^^^ w) = Vector.zipWith (· ^^^ ·) (frameOfWord v) (frameOfWord w) := by
  simp [frameOfWord, BitVec.extractLsb'_xor]

theorem frameChecksum_zipWith_xor (f g : Frame) :
    frameChecksum (Vector.zipWith (· ^^^ ·) f g) = frameChecksum f ^^^ frameChecksum g := by
  simp only [frameChecksum, checksumOfBytes_eq, halfOfBytes, Vector.getElem_zipWith]
  exact BitVec.xor_append.symm

theorem crc6_frameMessage_zipWith_xor (f g : Frame) :
    crc6 (frameMessage (Vector.zipWith (· ^^^ ·) f g)) =
      crc6 (frameMessage f) ^^^ crc6 (frameMessage g) := by
  rw [crc6, crc6, crc6, ← crc16IsLinear _ _ (by simp)]
  simp [frameMessage]

theorem syndrome_frameOfWord_xor (v w : FrameWord) :
    syndrome (frameOfWord (v ^^^ w)) = syndrome (frameOfWord v) ^^^ syndrome (frameOfWord w) := by
  rw [frameOfWord_xor, syndrome, crc6_frameMessage_zipWith_xor, frameChecksum_zipWith_xor]
  simp only [syndrome]
  ac_rfl

/-- None of the 64 single-bit patterns is invisible to the checksum (R83). -/
theorem syndrome_twoPow_ne_zero : ∀ i < 64, syndrome (frameOfWord (BitVec.twoPow 64 i)) ≠ 0#16 := by
  decide +kernel

/-- Bits 8 to 15 of the frame word are the op_code byte (R9). -/
theorem opCode_twoPow_eq_zero_iff : ∀ i < 64,
    (frameOfWord (BitVec.twoPow 64 i))[1] = 0 ↔ ¬ (8 ≤ i ∧ i < 16) := by
  decide +kernel

/-- A frame that passes the check no longer does once one bit is changed. -/
theorem crcCheck_flip {f : Frame} {i : Nat} (hi : i < 64) (hf : crcCheck f = true) :
    crcCheck (frameOfWord (frameWord f ^^^ BitVec.twoPow 64 i)) = false := by
  rw [Bool.eq_false_iff, Ne, crcCheck_iff_syndrome, syndrome_frameOfWord_xor, frameOfWord_frameWord,
    (crcCheck_iff_syndrome f).mp hf, BitVec.zero_xor]
  exact syndrome_twoPow_ne_zero i hi

/-- A single-bit change leaves the op_code byte exactly when the bit is not one of its. -/
theorem opCode_flip_eq_iff (f : Frame) {i : Nat} (hi : i < 64) :
    (frameOfWord (frameWord f ^^^ BitVec.twoPow 64 i))[1] = f[1] ↔ ¬ (8 ≤ i ∧ i < 16) := by
  calc (frameOfWord (frameWord f ^^^ BitVec.twoPow 64 i))[1] = f[1]
      ↔ f[1] ^^^ (frameOfWord (BitVec.twoPow 64 i))[1] = f[1] ^^^ 0#8 := by
        rw [frameOfWord_xor, frameOfWord_frameWord, Vector.getElem_zipWith, BitVec.xor_zero]
    _ ↔ (frameOfWord (BitVec.twoPow 64 i))[1] = 0#8 := BitVec.xor_right_inj f[1]
    _ ↔ ¬ (8 ≤ i ∧ i < 16) := opCode_twoPow_eq_zero_iff i hi

/-- Settles O19: a change in the op_code byte fails the first test, and any other leaves that test
passed and fails the second. -/
theorem singleBitErrorIsCaught : Obligations.SingleBitErrorIsCaught := by
  intro x f i hi hf
  obtain ⟨hop, hcrc⟩ := (validate_eq_ok_iff x f).mp hf
  split
  next hbit =>
    apply validate_of_opCode_ne
    rw [← hop]
    exact fun h => (opCode_flip_eq_iff f hi).mp h hbit
  next hbit =>
    exact validate_of_crcCheck_eq_false (((opCode_flip_eq_iff f hi).mpr hbit).trans hop)
      (crcCheck_flip hi hcrc)

end Sys2Proof.Machine
end

section
/-! PROOFS of the exchange (spec/43_validator_and_exchange.md R117 to R119): the call of `SEND` from its
command to the result it takes, run through, interleaved with anything that does not disturb it, and
cut short by `ABORT`. -/

namespace Sys2Proof.Machine

/-! ### The two ends of a call -/

theorem exec_send (op : Byte) (p : Payload) (s : State) :
    exec (.send op p) s = sendCommand op p s := rfl

theorem exec_take (s : State) : exec .take s = execTake s := rfl

theorem exec_abort (s : State) : exec .abort s = execAbort s := rfl

theorem sendCommand_of_idle {s : State} (op : Byte) (p : Payload) (hp : s.phase = .idle) :
    sendCommand op p s = .next { accept op p s with inSend := true } := by
  rcases sendCommand_cases op p s with ⟨_, e⟩ | ⟨hne, _⟩
  · exact e
  · exact absurd hp hne

theorem sendCommand_of_ne_idle {s : State} (op : Byte) (p : Payload) (hp : s.phase ≠ .idle) :
    sendCommand op p s = .next s := by
  rcases sendCommand_cases op p s with ⟨hidle, _⟩ | ⟨_, e⟩
  · exact absurd hidle hp
  · exact e

/-- Settles O27: `SEND` is the accepted command with the call begun in IDLE, and does not fire
elsewhere. -/
theorem sendOpensExchange : Obligations.SendOpensExchange := by
  intro op p s
  rw [exec_send]
  exact ⟨sendCommand_of_idle op p, sendCommand_of_ne_idle op p⟩

theorem execTake_of_done {s : State} (hp : s.phase = .done) :
    execTake s = .next (returnToIdle s) := by
  rcases execTake_cases s with ⟨_, e⟩ | ⟨hne, _⟩
  · exact e
  · exact absurd hp hne

theorem execTake_of_ne_done {s : State} (hp : s.phase ≠ .done) : execTake s = .next s := by
  rcases execTake_cases s with ⟨hdone, _⟩ | ⟨_, e⟩
  · exact absurd hdone hp
  · exact e

/-- Settles O23: the fields delivered are those the output ports show, `Decode(RXBUF)` where they are
valid. -/
theorem takeDeliversResult : Obligations.TakeDeliversResult := by
  intro s
  rw [exec_take]
  exact ⟨fun hp => ⟨shownFields s, shownFields_of_done hp, execTake_of_done hp⟩,
    execTake_of_ne_done⟩

/-- Settles O33: a call is to return, and neither an empty script nor a head that resets nothing
comes before it. -/
theorem stepReturnsFromSend : Obligations.StepReturnsFromSend := by
  intro s hsend hp hx
  have hr : returning s = true := (returning_iff s).mpr ⟨hsend, hp⟩
  have hf : fetch s = .run .take (tick s) := by
    rcases fetch_cases s with ⟨_, _, hnr⟩ | ⟨hf, _⟩ | ⟨x, rest, hs, hnr | hreset, _⟩
    · exact absurd hr (by simp [hnr])
    · exact hf
    · exact absurd hr (by simp [hnr])
    · exact absurd hreset (by simp [hx x rest hs])
  exact step_of_fetch_run hf

/-- A finished call returns in one step (R117, R119; log 8). -/
theorem step_of_returning {s : State} (hsend : s.inSend = true) (hp : s.phase = .done)
    (hx : ∀ x rest, s.script = x :: rest → resets x = false) :
    step s = .next (returnToIdle (tick s)) := by
  rw [stepReturnsFromSend s hsend hp hx, exec_take]
  exact execTake_of_done (s := tick s) hp

/-- What the host receives with a verdict: the verdict and `Decode(RXBUF)` (R118). -/
theorem hostResult_of_verdict {s : State} {op : OpCode} (hp : s.phase = .done)
    (hr : s.result = validate op s.rxbuf) :
    hostResult s = { status := validate op s.rxbuf, fields := decodeFields s.rxbuf } := by
  have hne : s.result ≠ .ioError := hr ▸ validate_ne_ioError op s.rxbuf
  rw [hostResult, hr, shownFields_of_done hp hne]

/-! ### Runs -/

/-- A run of `k + 1` steps is a step and a run of `k` steps from the state it gives. -/
theorem run_succ_eq_next {k : Nat} {s u : State} (h : run (k + 1) s = .next u) :
    ∃ t, step s = .next t ∧ run k t = .next u := by
  cases ht : step s with
  | next t => exact ⟨t, rfl, run_succ k s t ht ▸ h⟩
  | fault r =>
    have ht : core.step s = .fault r := ht
    simp only [run, Host.Core.run, ht] at h
    cases h
  | refused r =>
    have ht : core.step s = .refused r := ht
    simp only [run, Host.Core.run, ht] at h
    cases h

/-- What every step keeps, every run keeps. -/
theorem run_keeps {P : State → Prop} (hP : ∀ s t, P s → step s = .next t → P t) {k : Nat}
    {s u : State} (hs : P s) (h : run k s = .next u) : P u := by
  induction k generalizing s with
  | zero => cases h; exact hs
  | succ k ih =>
    obtain ⟨t, hst, htu⟩ := run_succ_eq_next h
    exact ih (hP s t hs hst) htu

/-- Two runs one after the other. -/
theorem run_add {j : Nat} (k : Nat) {s t : State} (h : run j s = .next t) :
    run (j + k) s = run k t := by
  induction j generalizing s with
  | zero => cases h; rw [Nat.zero_add]
  | succ j ih =>
    obtain ⟨u, hsu, hut⟩ := run_succ_eq_next h
    rw [Nat.succ_add, run_succ _ s u hsu, ih hut]

/-! ### A call cut short -/

/-- `ABORT` in flight is effective, whatever the call (R171). -/
theorem step_abort_of_inFlight {rest : List Stimulus} {s : State} (hp : s.phase = .tx ∨ s.phase = .rx)
    (hs : s.script = .line .abort :: rest) :
    step s = .next (endExchange .ioError (consume rest s)) := by
  have hnd : s.phase ≠ .done := by rcases hp with hp | hp <;> simp [hp]
  rw [stepRunsDecoded s _ rest .abort hs (fun _ hdone => absurd hdone hnd) rfl, exec_abort]
  rcases execAbort_cases (consume rest s) with ⟨_, e⟩ | ⟨hnot, _⟩
  · exact e
  · exact absurd ((inFlight_iff s.phase).mpr hp) (by simpa using hnot)

/-- Settles O46: the abort ends the exchange with IO_ERROR, and the call takes that. -/
theorem abortedSendReturnsIoError : Obligations.AbortedSendReturnsIoError := by
  intro rest s hp hsend hs hx
  have hreturn := step_of_returning (s := endExchange .ioError (consume rest s)) hsend rfl hx
  refine ⟨(hostResult (tick (endExchange .ioError (consume rest s)))).fields, ?_⟩
  rw [run_succ 1 s _ (step_abort_of_inFlight hp hs), run_succ 0 _ _ hreturn]
  rfl

/-! ### A call run through -/

/-- The state after `s` once the command of `SEND` has been accepted and the call has begun (R91,
R119). -/
def beginCall (op : OpCode) (p : Payload) (rest : List Stimulus) (s : State) : State :=
  { accept op p (consume rest s) with inSend := true }

/-- A step that reads the `SEND` line in IDLE begins the call. -/
theorem step_send_of_idle {op : Byte} {p : Payload} {rest : List Stimulus} {s : State}
    (hp : s.phase = .idle) (hs : s.script = .line (.send op p) :: rest) :
    step s = .next (beginCall op p rest s) := by
  have hnd : s.inSend = true → s.phase = .done → resets (.line (.send op p)) = true :=
    fun _ hdone => absurd (hp.symm.trans hdone) (by decide)
  rw [stepRunsDecoded s _ rest (.send op p) hs hnd rfl, exec_send]
  exact sendCommand_of_idle (s := consume rest s) op p hp

/-- The state after `s` once the byte of `TXBUF` at offset `n` has been sent (R92). -/
def transmitNext (n : Nat) (h : n < 8) (rest : List Stimulus) (s : State) : State :=
  advanceTx n s.txbuf[n] (consume rest s)

/-- The state after `s` once the bytes of `TXBUF` from offset `n` on have been sent, one a step, and
the last of them has started the reception (R92). -/
def transmitRest (n : Nat) (rest : List Stimulus) (s : State) : State :=
  { s with
    emitted := s.emitted ++ s.txbuf.toList.drop n
    txCnt   := 8
    rxCnt   := 0
    phase   := .rx
    script  := rest
    draws   := s.draws + (8 - n) }

section
variable {n : Nat} {rest : List Stimulus} {s : State}

/-- A step that reads a `TXB` line in TX sends the next byte (R72, R92). -/
theorem step_txb_of_tx (hp : s.phase = .tx) (hn : s.txCnt = n) (h : n < 8)
    (hs : s.script = .line .txb :: rest) : step s = .next (transmitNext n h rest s) := by
  subst hn
  have hnd : s.inSend = true → s.phase = .done → resets (.line .txb) = true :=
    fun _ hdone => absurd (hp.symm.trans hdone) (by decide)
  rw [stepRunsDecoded s _ rest .txb hs hnd rfl, exec_txb]
  exact transmitByte_of_tx (s := consume rest s) hp h

/-- Before the eighth byte the block goes on sending. -/
theorem transmitNext_phase (hp : s.phase = .tx) (h : n < 7) :
    (transmitNext n (by omega) rest s).phase = .tx := by
  rw [transmitNext, advanceTx_phase, if_neg (by omega), consume_phase, hp]

/-- The eighth byte is the last one to send. -/
theorem transmitNext_last : transmitNext 7 (by decide) rest s = transmitRest 7 rest s := by
  rw [transmitNext, advanceTx_last, transmitRest, toList_drop_eq_cons s.txbuf (by decide),
    toList_drop_eight]
  rfl

/-- Sending one byte and then the others is sending them all. -/
theorem transmitRest_transmitNext (h : n < 7) (sc : List Stimulus) :
    transmitRest (n + 1) rest (transmitNext n (by omega) sc s) = transmitRest n rest s := by
  have hdraws : s.draws + 1 + (8 - (n + 1)) = s.draws + (8 - n) := by omega
  simp only [transmitNext, advanceTx_before _ _ _ (show n + 1 ≠ 8 by omega), transmitRest,
    consume_draws, consume_emitted, consume_txbuf, hdraws,
    toList_drop_eq_cons s.txbuf (show n < 8 by omega), List.append_assoc, List.singleton_append]
  rfl

/-- One step a byte, as many `TXB` as bytes are left send them and start the reception (R92). -/
theorem run_txb_of_tx {k : Nat} (hp : s.phase = .tx) (hn : s.txCnt = n) (hk : n + k = 7)
    (hs : s.script = List.replicate (k + 1) (.line .txb) ++ rest) :
    run (k + 1) s = .next (transmitRest n rest s) := by
  induction k generalizing n s with
  | zero =>
    obtain rfl : n = 7 := hk
    have hs : s.script = .line .txb :: rest := hs
    rw [run_succ 0 s _ (step_txb_of_tx hp hn (by decide) hs), run_zero, transmitNext_last]
  | succ k ih =>
    have hn7 : n < 7 := by omega
    have hs : s.script = .line .txb :: (List.replicate (k + 1) (.line .txb) ++ rest) := hs
    rw [run_succ (k + 1) s _ (step_txb_of_tx hp hn (by omega) hs),
      ih (transmitNext_phase hp hn7) (advanceTx_txCnt ..) (by omega) (advanceTx_script ..),
      transmitRest_transmitNext hn7]

/-- The state after `s` once the whole request has been sent and the whole response `r` has come. -/
def exchanged (r : Frame) (rest : List Stimulus) (s : State) : State :=
  receiveRest r 0 rest (transmitRest 0 (rxbLines r.toList ++ rest) s)

/-- The transport's sixteen events send the request and bring the response (R119). -/
theorem run_exchangeLines {r : Frame} (hp : s.phase = .tx) (h0 : s.txCnt = 0)
    (hs : s.script = exchangeLines r ++ rest) : run 16 s = .next (exchanged r rest s) := by
  have hsent : run 8 s = .next (transmitRest 0 (rxbLines r.toList ++ rest) s) :=
    run_txb_of_tx hp h0 rfl (hs.trans (List.append_assoc ..))
  have hawaits : AwaitsBytes r 0 rest (transmitRest 0 (rxbLines r.toList ++ rest) s) :=
    ⟨rfl, rfl, fun i _ hi => absurd hi (Nat.not_lt_zero i), rfl⟩
  exact (run_add 8 hsent).trans (hawaits.run_eq rfl)

end

/-- Settles O44: the call begins, the transport's sixteen events run, and the call returns. -/
theorem exchangeRunsToCompletion : Obligations.ExchangeRunsToCompletion := by
  intro op p r rest s hp hs hx
  have hbegin := step_send_of_idle hp hs
  have hexchange := run_exchangeLines (s := beginCall op p (exchangeLines r ++ rest) s) rfl rfl rfl
  have hreturn := step_of_returning
    (s := exchanged r rest (beginCall op p (exchangeLines r ++ rest) s)) rfl rfl hx
  rw [run_succ 17 s _ hbegin, run_add (j := 16) 1 hexchange, run_succ 0 _ _ hreturn, run_zero,
    returnToIdle, hostResult_of_verdict (op := op) rfl rfl]
  rfl

/-! ### A call interleaved with anything that does not disturb it -/

theorem orderly_requestRow (o : ListedOp) (p : Payload) (sum : Half) :
    orderly (requestRow o p sum) = true := by
  cases o <;> rfl

theorem orderly_responseRow (o : ListedOp) (m : Byte) (p : Payload) (sum : Half) :
    orderly (responseRow o m p sum) = true := by
  cases o <;> rfl

/-- No frame is an `ABORT`, a `CLEAR` or a `RST` (R74). -/
theorem orderly_of_decodeFrame {d : Direction} {f : Frame} {i : Instr}
    (h : decodeFrame d f = .ok i) : orderly i = true := by
  cases d with
  | request =>
    rcases decodeFrame_request_cases f with ⟨_, e⟩ | ⟨_, o, _, e⟩ | ⟨_, _, e⟩ <;> rw [e] at h <;>
      cases h
    · exact orderly_requestRow o _ _
    · rfl
  | response =>
    rcases decodeFrame_response_cases f with ⟨o, _, e⟩ | ⟨_, e⟩ <;> rw [e] at h <;> cases h
    · exact orderly_responseRow o _ _ _
    · rfl

/-- The four handshakes are none of the asynchronous events (R28, R170). -/
theorem orderly_of_handshake {ph : Phase} {p : Pins} {i : Instr} (h : handshake ph p = some i) :
    orderly i = true := by
  unfold handshake at h
  cases ph <;> (obtain ⟨-, ⟨⟩⟩ := Option.ite_none_right_eq_some.mp h; rfl)

/-- Without `rst`, `clear` and `io_abort` a port sample selects the enabled handshake only (R195). -/
theorem select_of_undisturbing {p : Pins} (ph : Phase) (hp : undisturbing (.ports p) = true) :
    select ph p = handshake ph p := by
  simp only [undisturbing, Bool.and_eq_true, Bool.not_eq_true'] at hp
  obtain ⟨⟨hr, hc⟩, ha⟩ := hp
  simp only [select, hr, hc, ha]
  cases handshake ph p <;> rfl

theorem orderly_of_decode {ph : Phase} {x : Stimulus} {i : Instr} (hx : undisturbing x = true)
    (h : decode ph x = .ok (some i)) : orderly i = true := by
  cases x with
  | frame d f =>
    cases hf : decodeFrame d f with
    | ok j => rw [decode_frame_of_ok ph hf] at h; cases h; exact orderly_of_decodeFrame hf
    | error r => simp only [decode, hf] at h; cases h
  | ports p =>
    rw [decode, select_of_undisturbing ph hx] at h
    exact orderly_of_handshake (Except.ok.inj h)
  | line j => cases h; exact hx

theorem not_resets_of_undisturbing {x : Stimulus} (hx : undisturbing x = true) :
    resets x = false := by
  cases x with
  | frame d f => rfl
  | ports p => simp_all [undisturbing, resets]
  | line i => simp_all [undisturbing, resets, orderly, isReset]

/-- The script `sc` asserts none of `io_abort`, `clear`, `rst` (R119, R170). -/
def Undisturbed (sc : List Stimulus) : Prop := ∀ x ∈ sc, undisturbing x = true

theorem Undisturbed.tail {x : Stimulus} {rest : List Stimulus} (h : Undisturbed (x :: rest)) :
    Undisturbed rest := fun y hy => h y (List.mem_cons_of_mem x hy)

theorem Undisturbed.rxbLines_append {sc : List Stimulus} (h : Undisturbed sc) (bs : List Byte) :
    Undisturbed (rxbLines bs ++ sc) := by
  intro x hx
  rcases List.mem_append.mp hx with hx | hx
  · obtain ⟨b, -, rfl⟩ := List.mem_map.mp hx
    rfl
  · exact h x hx

/-- Storing a byte leaves the script. -/
theorem receiveByte_script {b : Byte} {s t : State} (h : receiveByte b s = .next t) :
    t.script = s.script := by
  rcases receiveByte_cases b s with ⟨_, _, e⟩ | ⟨_, _, e⟩ | ⟨_, e⟩ <;> rw [e] at h <;> cases h
  · exact advanceRx_script ..
  · rfl

/-- Every operation leaves the script, or puts `RXB` lines before it (log 10). -/
theorem exec_script {i : Instr} {s t : State} (h : exec i s = .next t) :
    ∃ bs, t.script = rxbLines bs ++ s.script := by
  rcases exec_cases i s with ⟨a, e⟩ | ⟨op, p, e⟩ | ⟨op, p, e⟩ | e | ⟨b, e⟩ | ⟨f, e⟩ | e | ⟨_, e⟩ |
    ⟨_, e⟩ <;> rw [e] at h
  · cases h; exact ⟨[], rfl⟩
  · rcases issueCommand_cases op p s with ⟨_, e⟩ | ⟨_, e⟩ <;> rw [e] at h <;> cases h <;>
      exact ⟨[], rfl⟩
  · rcases sendCommand_cases op p s with ⟨_, e⟩ | ⟨_, e⟩ <;> rw [e] at h <;> cases h <;>
      exact ⟨[], rfl⟩
  · rcases transmitByte_cases s with ⟨_, _, e⟩ | ⟨_, _, e⟩ | ⟨_, e⟩ <;> rw [e] at h <;> cases h
    · exact ⟨[], advanceTx_script ..⟩
    · exact ⟨[], rfl⟩
  · exact ⟨[], receiveByte_script h⟩
  · exact ⟨_, receiveByte_script h⟩
  · rcases execTake_cases s with ⟨_, e⟩ | ⟨_, e⟩ <;> rw [e] at h <;> cases h <;> exact ⟨[], rfl⟩
  · rcases execAbort_cases s with ⟨_, e⟩ | ⟨_, e⟩ <;> rw [e] at h <;> cases h <;> exact ⟨[], rfl⟩
  · cases h; exact ⟨[], rfl⟩

/-- A step under an undisturbed script waits, or runs an operation that is none of the asynchronous
events; what is left of the script is undisturbed. -/
theorem step_of_undisturbed {s t : State} (hs : Undisturbed s.script) (h : step s = .next t) :
    ∃ sc, Undisturbed sc ∧
      (t = consume sc s ∨ ∃ i, orderly i = true ∧ exec i (consume sc s) = .next t) := by
  rcases fetch_cases s with ⟨hf, _, _⟩ | ⟨hf, _⟩ | ⟨x, rest, hsc, _, hf⟩
  · simp only [step, hf] at h; cases h
    exact ⟨s.script, hs, .inl rfl⟩
  · exact ⟨s.script, hs, .inr ⟨.take, rfl, step_of_fetch_run hf ▸ h⟩⟩
  · rw [hsc] at hs
    refine ⟨rest, hs.tail, ?_⟩
    unfold readStimulus at hf
    split at hf
    next i hd => exact .inr ⟨i, orderly_of_decode (hs x List.mem_cons_self) hd,
      step_of_fetch_run hf ▸ h⟩
    next => simp only [step, hf] at h; cases h; exact .inl rfl
    next => simp only [step, hf] at h; cases h

/-- Where the exchange of the request frame `req` to `op` that began in `s` stands in `u`: how much of
`req` has been sent, and how much of `RXBUF` received, since `s` (R48, R119). -/
inductive Stage (req : Frame) (op : OpCode) (s u : State) : Prop
  | sending (hp : u.phase = .tx) (h : u.txCnt < 8)
      (he : u.emitted = s.emitted ++ req.toList.take u.txCnt) (hh : u.heard = s.heard)
  | receiving (hp : u.phase = .rx) (h : u.rxCnt < 8) (he : u.emitted = s.emitted ++ req.toList)
      (hh : u.heard = s.heard ++ u.rxbuf.toList.take u.rxCnt)
  | finished (hp : u.phase = .done) (he : u.emitted = s.emitted ++ req.toList)
      (hh : u.heard = s.heard ++ u.rxbuf.toList) (hr : u.result = validate op u.rxbuf)

/-- In `u` the call of `SEND` that began in `s` with the request frame `req` to `op` is in progress,
under an undisturbed script (R119). -/
structure InCall (req : Frame) (op : OpCode) (s u : State) : Prop where
  inSend : u.inSend = true
  script : Undisturbed u.script
  reqOp : u.reqOp = op
  txbuf : u.txbuf = req
  taken : u.taken = s.taken
  stage : Stage req op s u

section
variable {req : Frame} {op : OpCode} {s u : State}

theorem take_succ_toList (f : Frame) {n : Nat} (h : n < 8) :
    f.toList.take (n + 1) = f.toList.take n ++ [f[n]] := by
  rw [List.take_succ_eq_append_getElem (by simpa using h)]
  simp

theorem take_eight_toList (f : Frame) : f.toList.take 8 = f.toList :=
  List.take_of_length_le (by simp)

theorem Stage.phase_ne_idle (h : Stage req op s u) : u.phase ≠ .idle := by
  rcases h with ⟨hp, _⟩ | ⟨hp, _⟩ | ⟨hp, _⟩ <;> simp [hp]

/-- A byte sent is the next one of the request (R92). -/
theorem Stage.advanceTx (h : Stage req op s u) (h8 : u.txCnt < 8) (hp : u.phase = .tx)
    (hreq : u.txbuf = req) : Stage req op s (advanceTx u.txCnt u.txbuf[u.txCnt] u) := by
  subst hreq
  rcases h with ⟨-, -, he, hh⟩ | ⟨hrx, _⟩ | ⟨hdone, _⟩
  case receiving => exact absurd (hp.symm.trans hrx) (by decide)
  case finished => exact absurd (hp.symm.trans hdone) (by decide)
  have hsent : u.emitted ++ [u.txbuf[u.txCnt]] =
      s.emitted ++ u.txbuf.toList.take (u.txCnt + 1) := by
    rw [he, List.append_assoc, take_succ_toList u.txbuf h8]
  by_cases h7 : u.txCnt = 7
  · simp only [h7] at hsent ⊢
    rw [take_eight_toList] at hsent
    rw [advanceTx_last]
    exact .receiving rfl (Nat.succ_pos 7) hsent (by simpa using hh)
  · rw [advanceTx_before _ _ _ (by omega)]
    exact .sending hp (by dsimp only; omega) hsent hh

/-- A byte stored is the next one of `RXBUF`; the eighth brings the verdict (R100). -/
theorem Stage.advanceRx (b : Byte) (h : Stage req op s u) (h8 : u.rxCnt < 8) (hp : u.phase = .rx)
    (hop : u.reqOp = op) :
    Stage req op s (advanceRx u.rxCnt b (u.rxbuf.set u.rxCnt b) u) := by
  rcases h with ⟨htx, _⟩ | ⟨-, -, he, hh⟩ | ⟨hdone, _⟩
  case sending => exact absurd (hp.symm.trans htx) (by decide)
  case finished => exact absurd (hp.symm.trans hdone) (by decide)
  have hstored : u.heard ++ [b] =
      s.heard ++ (u.rxbuf.set u.rxCnt b).toList.take (u.rxCnt + 1) := by
    rw [hh, List.append_assoc, take_succ_toList _ h8, toList_set_take _ h8, Vector.getElem_set_self]
  by_cases h7 : u.rxCnt = 7
  · simp only [h7] at hstored ⊢
    rw [take_eight_toList] at hstored
    rw [advanceRx_last]
    exact .finished rfl he hstored (by rw [hop])
  · rw [advanceRx_before _ _ _ _ (by omega)]
    exact .receiving hp (by dsimp only; omega) he hstored

/-- What the environment does next, the last answer and the numbering of the free values play no part
in where an exchange stands. -/
theorem Stage.withModelFields (h : Stage req op s u) (sc : List Stimulus) (a : Answer) (n : Nat) :
    Stage req op s { u with script := sc, answer := a, draws := n } := by
  rcases h with ⟨hp, h8, he, hh⟩ | ⟨hp, h8, he, hh⟩ | ⟨hp, he, hh, hr⟩
  · exact .sending hp h8 he hh
  · exact .receiving hp h8 he hh
  · exact .finished hp he hh hr

theorem InCall.consume {sc : List Stimulus} (h : InCall req op s u) (hsc : Undisturbed sc) :
    InCall req op s (consume sc u) :=
  ⟨h.inSend, hsc, h.reqOp, h.txbuf, h.taken, h.stage.withModelFields sc u.answer (u.draws + 1)⟩

/-- The call of `SEND` that began in `s` is in progress in `u`, or its result has been taken. -/
def InCallOrTaken (req : Frame) (op : OpCode) (s u : State) : Prop :=
  InCall req op s u ∨ s.taken.length < u.taken.length

/-- In a call an operation that is none of the asynchronous events moves the exchange on or takes its
result: of the ways an operation can go, an accepted command would start in IDLE. -/
theorem InCall.exec {i : Instr} {t : State} (h : InCall req op s u) (hi : orderly i = true)
    (he : exec i u = .next t) : InCallOrTaken req op s t := by
  obtain ⟨bs, hbs⟩ := exec_script he
  have hscript : Undisturbed t.script := hbs ▸ h.script.rxbLines_append bs
  obtain ⟨hsend, -, hop, hreq, htaken, hstage⟩ := h
  cases exec_fires i he with
  | quiet a sc =>
    exact .inl ⟨hsend, hscript, hop, hreq, htaken, hstage.withModelFields sc a u.draws⟩
  | accepted op' p b _ hp => exact absurd hp hstage.phase_ne_idle
  | sent h8 _ hp =>
    exact .inl ⟨(advanceTx_inSend ..).trans hsend, hscript, (advanceTx_reqOp ..).trans hop,
      (advanceTx_txbuf ..).trans hreq, (advanceTx_taken ..).trans htaken,
      hstage.advanceTx h8 hp hreq⟩
  | stored h8 b sc _ hp =>
    exact .inl ⟨(advanceRx_inSend ..).trans hsend, hscript, (advanceRx_reqOp ..).trans hop,
      (advanceRx_txbuf ..).trans hreq, (advanceRx_taken ..).trans htaken,
      (hstage.advanceRx b h8 hp hop).withModelFields sc _ _⟩
  | returned => exact .inr (by simp [htaken])
  | aborted hi' => subst hi'; exact absurd hi (by decide)
  | released hi' => rcases hi' with rfl | rfl <;> exact absurd hi (by decide)

/-- A result once taken stays on the record (R12; log 19). -/
theorem taken_length_le_of_step {t : State} (h : step u = .next t) :
    u.taken.length ≤ t.taken.length := by
  rcases stepMovesAtMostOneItem u t h with ⟨-, -, e⟩ | ⟨_, -, -, e⟩ | ⟨_, -, -, e⟩ | ⟨_, -, -, e⟩ <;>
    simp [e]

/-- Every step of a call under an undisturbed script moves the exchange on or takes its result, which
then stays taken. -/
theorem step_keeps_inCallOrTaken (u t : State) (h : InCallOrTaken req op s u)
    (hst : step u = .next t) : InCallOrTaken req op s t := by
  rcases h with h | h
  · obtain ⟨sc, hsc, rfl | ⟨i, hi, he⟩⟩ := step_of_undisturbed h.script hst
    · exact .inl (h.consume hsc)
    · exact (h.consume hsc).exec hi he
  · exact .inr (Nat.lt_of_lt_of_le h (taken_length_le_of_step hst))

/-- In a call that is DONE the whole request has been sent, and `RESULT` is the verdict on what came. -/
theorem InCall.finished (h : InCall req op s u) (hp : u.phase = .done) :
    u.emitted = s.emitted ++ req.toList ∧ u.heard = s.heard ++ u.rxbuf.toList ∧
      u.result = validate op u.rxbuf := by
  rcases h.stage with ⟨htx, _⟩ | ⟨hrx, _⟩ | ⟨-, he, hh, hr⟩
  · exact absurd (hp.symm.trans htx) (by decide)
  · exact absurd (hp.symm.trans hrx) (by decide)
  · exact ⟨he, hh, hr⟩

end

theorem inCall_beginCall (op : OpCode) (p : Payload) {rest : List Stimulus} (s : State)
    (hrest : Undisturbed rest) : InCall (encodeFrame op p) op s (beginCall op p rest s) :=
  ⟨rfl, hrest, rfl, rfl, rfl, .sending rfl (Nat.succ_pos 7) (List.append_nil _).symm rfl⟩

/-- Settles O45: the call the first step begins is in progress when it is DONE and nothing has been
taken, and the next step returns from it. -/
theorem exchangeEndToEnd : Obligations.ExchangeEndToEnd := by
  intro op p script k s u hp hs hscript hrun htaken hdone
  rw [run_succ k s _ (step_send_of_idle hp hs)] at hrun
  rcases run_keeps step_keeps_inCallOrTaken (.inl (inCall_beginCall op p s hscript)) hrun with
    hcall | hlong
  · obtain ⟨he, hh, hr⟩ := hcall.finished hdone
    have hnr : ∀ x rest, u.script = x :: rest → resets x = false := fun x rest hsc =>
      not_resets_of_undisturbing (hcall.script x (hsc ▸ List.mem_cons_self))
    refine ⟨he, hh, hr, _, step_of_returning hcall.inSend hdone hnr, rfl, ?_⟩
    rw [returnToIdle_taken, hostResult_of_verdict (s := tick u) hdone hr, tick_taken, htaken]
    rfl
  · exact absurd hlong (by simp [htaken])

end Sys2Proof.Machine
end

section
/-! PROOFS of the command rows and of the client's sequences (spec/44_command_opcodes.md R130 to R157):
each row as its listed command's exchange, and each sequence as far as its exchanges end OK. -/

namespace Sys2Proof.Machine

/-! ### The request rows -/

/-- The REQ row of a listed command, and its op_code (R67, R130 to R150). -/
def requestEntry (p : Payload) (sum : Half) (o : ListedOp) : Instr × OpCode :=
  (requestRow o p sum, opCode o)

/-- Settles O28: the list is the entry of each listed command, whose row is `SEND` of its op_code. -/
theorem requestRowsSend : Obligations.RequestRowsSend := by
  intro p sum s
  change ∀ row ∈ listedOps.map (requestEntry p sum), _
  refine List.forall_mem_map.mpr fun o _ => ?_
  rw [requestEntry, exec_requestRow]
  exact ⟨sendCommand_of_idle (opCode o) p, sendCommand_of_ne_idle (opCode o) p⟩

/-- Settles O58: `disable()` sends no register's value, so its frame is that of two constants. -/
theorem disableFrameIsFixed : Obligations.DisableFrameIsFixed := by
  intro c hc s hp
  obtain rfl : c = ⟨.setEnable, #v[1, 0, 0, 0]⟩ := List.mem_singleton.mp hc
  have hframe : encodeFrame (opCode .setEnable) #v[1, 0, 0, 0] =
      #v[0xAA, 0x18, 0x01, 0x00, 0x00, 0x00, 0xE9, 0x17] := by decide +kernel
  rw [commandRow, exec_requestRow, sendCommand_of_idle _ _ hp]
  exact ⟨_, rfl, hframe⟩

/-! ### The response rows -/

/-- The RSP row of a listed command, and its response op_code (R66, R67, R130 to R150). -/
def responseEntry (m : Byte) (p : Payload) (sum : Half) (o : ListedOp) : Instr × OpCode :=
  (responseRow o m p sum, rspOp (opCode o))

/-- `s` with the last seven bytes of `f` put before the script as `RXB` lines (R72; log 10). -/
def withRestOfFrame (f : Frame) (s : State) : State :=
  { s with script := rxbLines [f[1], f[2], f[3], f[4], f[5], f[6], f[7]] ++ s.script }

/-- A frame arrives as the `RXB` of its first byte, the other seven to come (R72; log 10). -/
theorem receiveFrame_eq_rxb (f : Frame) (s : State) :
    receiveFrame f s = exec (.rxb f[0]) (withRestOfFrame f s) := rfl

/-- Settles O29: the list is the entry of each listed command, and the first byte of its frame is
received as any other. -/
theorem responseRowsArrive : Obligations.ResponseRowsArrive := by
  intro m p sum s
  change ∀ row ∈ listedOps.map (responseEntry m p sum), _
  refine List.forall_mem_map.mpr fun o _ => ?_
  rw [responseEntry, exec_responseRow, receiveFrame_eq_rxb]
  obtain ⟨hbefore, hlast, -, helsewhere⟩ :=
    rxbStoresNextByte m (withRestOfFrame (responseFrame (opCode o) m p sum) s)
  exact ⟨hbefore, hlast, helsewhere⟩

/-! ### How far a sequence goes -/

@[simp] theorem issued_nil (es : List ExchangeEnd) : issued [] es = [] := rfl

@[simp] theorem outcomeOf_nil (es : List ExchangeEnd) : outcomeOf [] es = .finished := rfl

@[simp] theorem outcomeOf_no_end (c : Command) (cs : List Command) :
    outcomeOf (c :: cs) [] = .waiting := rfl

/-- An end that is not OK, said of the results that were taken (R197). -/
theorem endedOk_eq_false_iff (e : ExchangeEnd) :
    endedOk e = false ↔ ∀ r, e = .taken r → r.status ≠ .ok := by
  rw [Bool.eq_false_iff, Ne, endedOk_iff]
  simp

theorem endedOk_taken_of_error {r : HostResult} (h : r.status ≠ .ok) :
    endedOk (.taken r) = false :=
  Bool.eq_false_iff.mpr (mt (endedOk_taken r).mp h)

/-- The index of the first end that is not OK, the number of ends if there is none. -/
def firstStop (es : List ExchangeEnd) : Nat := es.findIdx (!endedOk ·)

@[simp] theorem firstStop_nil : firstStop [] = 0 := rfl

theorem firstStop_cons_of_ok {e : ExchangeEnd} (h : endedOk e = true) (es : List ExchangeEnd) :
    firstStop (e :: es) = firstStop es + 1 := by
  simp [firstStop, List.findIdx_cons, h]

theorem firstStop_cons_of_stop {e : ExchangeEnd} (h : endedOk e = false) (es : List ExchangeEnd) :
    firstStop (e :: es) = 0 := by
  simp [firstStop, List.findIdx_cons, h]

theorem firstStop_eq_length_iff (es : List ExchangeEnd) :
    firstStop es = es.length ↔ ∀ e ∈ es, endedOk e = true := by
  simp [firstStop, List.findIdx_eq_length]

theorem firstStop_le_length (es : List ExchangeEnd) : firstStop es ≤ es.length :=
  List.findIdx_le_length

theorem endedOk_firstStop {es : List ExchangeEnd} (h : firstStop es < es.length) :
    endedOk es[firstStop es] = false := by
  have hstop : (!endedOk es[firstStop es]) = true := List.findIdx_getElem (w := h)
  rwa [Bool.not_eq_true'] at hstop

theorem firstStop_eq {es : List ExchangeEnd} {k : Nat} {e : ExchangeEnd} (hk : es[k]? = some e)
    (he : endedOk e = false) (hbefore : ∀ j e', j < k → es[j]? = some e' → endedOk e' = true) :
    firstStop es = k := by
  obtain ⟨hlt, rfl⟩ := List.getElem?_eq_some_iff.mp hk
  refine (List.findIdx_eq hlt).mpr ⟨by simp [he], fun j hj => ?_⟩
  simp [hbefore j _ hj (List.getElem?_eq_getElem (by omega))]

/-- The commands issued are those up to the first end that is not OK (R155, R156). -/
theorem issued_eq_take (cs : List Command) (es : List ExchangeEnd) :
    issued cs es = cs.take (firstStop es + 1) := by
  induction cs, es using issued.induct with
  | case1 es => simp
  | case2 c cs => simp
  | case3 c cs e es ih =>
    cases h : endedOk e with
    | true => rw [issued_after_ok h, firstStop_cons_of_ok h, List.take_succ_cons, ih]
    | false => rw [issued_after_stop h, firstStop_cons_of_stop h]; rfl

/-- A sequence is finished when it is no longer than its OK ends, stopped at the first end that is
not OK, and waits if there is none (R155, R156, R197). -/
theorem outcomeOf_eq_ite (cs : List Command) (es : List ExchangeEnd) :
    outcomeOf cs es = if cs.length ≤ firstStop es then .finished
      else es[firstStop es]?.elim .waiting stopOutcome := by
  induction cs, es using outcomeOf.induct with
  | case1 es => simp
  | case2 c cs => simp
  | case3 c cs e es h ih =>
    rw [outcomeOf_after_ok h, firstStop_cons_of_ok h, ih]
    simp
  | case4 c cs e es h =>
    rw [Bool.not_eq_true] at h
    rw [outcomeOf_after_stop h, firstStop_cons_of_stop h]
    simp

theorem length_issued (cs : List Command) (es : List ExchangeEnd) :
    (issued cs es).length = min cs.length (firstStop es + 1) := by
  rw [issued_eq_take, List.length_take, Nat.min_comm]

theorem outcomeOf_of_all_ok (cs : List Command) {es : List ExchangeEnd}
    (h : firstStop es = es.length) :
    outcomeOf cs es = if cs.length ≤ es.length then .finished else .waiting := by
  rw [outcomeOf_eq_ite, h, List.getElem?_eq_none le_rfl]
  rfl

theorem outcomeOf_of_stop {cs : List Command} {es : List ExchangeEnd} {e : ExchangeEnd}
    (hk : es[firstStop es]? = some e) (hlt : firstStop es < cs.length) :
    outcomeOf cs es = stopOutcome e := by
  rw [outcomeOf_eq_ite, if_neg (Nat.not_le.mpr hlt), hk]
  rfl

/-- A program is finished with its last exchange or at the first end that is not OK (R197). -/
theorem programFinished_outcomeOf (cs : List Command) (es : List ExchangeEnd) :
    programFinished (outcomeOf cs es) = true ↔
      cs.length ≤ es.length ∨ ∃ e ∈ es, endedOk e = false := by
  rcases (firstStop_le_length es).eq_or_lt with hall | hstop
  · have hok := (firstStop_eq_length_iff es).mp hall
    have hnone : ¬ ∃ e ∈ es, endedOk e = false := fun ⟨e, hmem, he⟩ => by simp [hok e hmem] at he
    rw [outcomeOf_of_all_ok cs hall, or_iff_left hnone]
    split <;> simp [programFinished, *]
  · have hex : ∃ e ∈ es, endedOk e = false :=
      ⟨_, List.getElem_mem hstop, endedOk_firstStop hstop⟩
    rw [iff_true_right (.inr hex), outcomeOf_eq_ite, List.getElem?_eq_getElem hstop]
    split
    · rfl
    · exact programFinished_stopOutcome _

/-- Settles O56: the sequence goes as far as the first end that is not OK, which is the number of
ends when all are OK and `k` when end `k` is the first that is not. -/
theorem clientStopsAtFirstError : Obligations.ClientStopsAtFirstError := by
  intro cs es
  simp only [← endedOk_iff, ← endedOk_eq_false_iff]
  refine ⟨issued_eq_take cs es ▸ List.take_prefix .., fun hall => ?_,
    fun k e hk he hbefore => ?_, programFinished_outcomeOf cs es⟩
  · have hlen := (firstStop_eq_length_iff es).mpr hall
    exact ⟨hlen ▸ length_issued cs es, outcomeOf_of_all_ok cs hlen⟩
  · obtain rfl := firstStop_eq hk he hbefore
    refine ⟨length_issued cs es, fun hlt => ?_⟩
    rw [outcomeOf_of_stop hk hlt]
    exact ⟨fun r h => h ▸ stopOutcome_taken r, fun h => h ▸ stopOutcome_abandoned⟩

/-! ### `open` -/

/-- After a heartbeat that did not end OK nothing more is issued (R153). -/
theorem open_after_stop {e : ExchangeEnd} (h : endedOk e = false) (es : List ExchangeEnd) :
    openIssued (e :: es) = heartbeatCommands ∧ openOutcome (e :: es) = stopOutcome e := by
  rw [openIssued, openOutcome, openCommands_cons, issued_after_stop h, outcomeOf_after_stop h]
  exact ⟨rfl, rfl⟩

/-- After a heartbeat that ended OK the follow-up is a sequence of its own (R153). -/
theorem open_after_ok {r : HostResult} (h : r.status = .ok) (es : List ExchangeEnd) :
    openIssued (.taken r :: es) = ⟨.heartbeat, zeroPayload⟩ :: issued (openFollowUp r) es ∧
      openOutcome (.taken r :: es) = outcomeOf (openFollowUp r) es := by
  have hok : endedOk (.taken r) = true := (endedOk_taken r).mpr h
  rw [openIssued, openOutcome, openCommands_cons, issued_after_ok hok, outcomeOf_after_ok hok]
  exact ⟨rfl, rfl⟩

/-- A command that no other follows is issued, whatever its exchange's end. -/
theorem issued_singleton (c : Command) (es : List ExchangeEnd) : issued [c] es = [c] := by
  rw [issued_eq_take, List.take_succ_cons, List.take_nil]

theorem outcomeOf_singleton_taken (c : Command) (r : HostResult) (es : List ExchangeEnd) :
    outcomeOf [c] (.taken r :: es) = if r.status = .ok then .finished else .failed r.status := by
  split
  next h => rw [outcomeOf_after_ok ((endedOk_taken r).mpr h), outcomeOf_nil]
  next h => rw [outcomeOf_after_stop (endedOk_taken_of_error h), stopOutcome_taken]

/-- Settles O57: an exchange of the heartbeat that is abandoned or fails stops `open`, and one that
ends OK is followed by nothing for an initialised board and by `RESET_BOARD` for any other. -/
theorem openHeartbeatsThenResets : Obligations.OpenHeartbeatsThenResets := by
  refine ⟨⟨rfl, rfl⟩, open_after_stop endedOk_abandoned, fun r es => ⟨fun herr => ?_,
    fun hok hinit => ?_, fun hok hinit => ?_⟩⟩
  · exact open_after_stop (endedOk_taken_of_error herr) es
  · simp only [open_after_ok hok, openFollowUp_of_initialised hinit]
    exact ⟨rfl, rfl⟩
  · simp only [open_after_ok hok, openFollowUp_of_uninitialised hok hinit, issued_singleton]
    exact ⟨rfl, rfl, rfl, fun r' => outcomeOf_singleton_taken _ r' es⟩

end Sys2Proof.Machine
end

section
/-! PROOFS of the asynchronous events (spec/60_exceptions.md R171, R172): `ABORT` ends an exchange in
flight, and `CLEAR` abandons whatever is in progress. -/

namespace Sys2Proof.Machine

/-! ### `ABORT` -/

theorem inFlight_eq_false_iff (ph : Phase) : inFlight ph = false ↔ ph = .idle ∨ ph = .done := by
  cases ph <;> decide

theorem execAbort_of_inFlight {s : State} (hp : inFlight s.phase = true) :
    execAbort s = .next (endExchange .ioError s) := by
  rcases execAbort_cases s with ⟨_, e⟩ | ⟨hnot, _⟩
  · exact e
  · exact absurd hp (by simp [hnot])

theorem execAbort_of_not_inFlight {s : State} (hp : inFlight s.phase = false) :
    execAbort s = .next s := by
  rcases execAbort_cases s with ⟨hin, _⟩ | ⟨_, e⟩
  · exact absurd hin (by simp [hp])
  · exact e

/-- Settles O24: TX and RX are the phases in flight, where `ABORT` is an end with IO_ERROR, and IDLE
and DONE the others, where it is ignored. -/
theorem abortEndsWithIoError : Obligations.AbortEndsWithIoError := by
  intro s
  rw [exec_abort, ← inFlight_iff, ← inFlight_eq_false_iff]
  exact ⟨execAbort_of_inFlight, execAbort_of_not_inFlight⟩

/-! ### `CLEAR` -/

theorem exec_clear (s : State) : exec .clear s = .next (release s) := rfl

/-- The released block, but for the values of the four registers it leaves unspecified (R37, R172). -/
theorem release_eq_idle (s : State) : ∃ (op : Byte) (tb rb : Frame) (r : Result),
    release s = { s with
      phase := .idle, txCnt := 0, rxCnt := 0, reqOp := op, txbuf := tb, rxbuf := rb, result := r,
      inSend := false } :=
  ⟨(release s).reqOp, (release s).txbuf, (release s).rxbuf, (release s).result, rfl⟩

/-- Settles O25: `CLEAR` releases the block in every phase, and the four free registers are the
values of which nothing is said. -/
theorem clearAbandonsExchange : Obligations.ClearAbandonsExchange := by
  intro s
  obtain ⟨op, tb, rb, r, hrelease⟩ := release_eq_idle s
  exact ⟨op, tb, rb, r, by rw [exec_clear, hrelease]⟩

end Sys2Proof.Machine
end

section
/-! PROOFS of reset and of what waits and what comes first (spec/70_reset_and_hazards.md R185, R190,
R195, R197): `RST` releases the block, a step in which nothing fires changes no register, the input
ports resolve by priority, and an exchange finishes in three ways only. -/

namespace Sys2Proof.Machine

/-! ### `RST` -/

theorem exec_rst (s : State) : exec .rst s = .next (release s) := rfl

/-- Settles O26: `RST` releases the block in every phase, and the four free registers are the values
of which nothing is said. -/
theorem rstLeavesResetState : Obligations.RstLeavesResetState := by
  intro s
  obtain ⟨op, tb, rb, r, hrelease⟩ := release_eq_idle s
  exact ⟨op, tb, rb, r, by rw [exec_rst, hrelease]⟩

/-! ### Nothing fires -/

/-- With no stimulus left and no result to take, nothing fires (R190). -/
theorem fetch_of_nil {s : State} (hs : s.script = []) (hr : returning s = false) :
    fetch s = .wait (tick s) := by
  simp [fetch, hs, hr]

theorem readStimulus_of_decode_none {s : State} {x : Stimulus} (rest : List Stimulus)
    (hd : decode s.phase x = .ok none) : readStimulus x rest s = .wait (consume rest s) := by
  simp only [readStimulus, hd]

theorem step_of_fetch_wait {s t : State} (hf : fetch s = .wait t) : step s = .next t := by
  simp only [step, hf]

/-- Settles O32: no result is about to be taken, so the fetch reads the script, which is empty or
whose head fires nothing. -/
theorem stepWaitsUnchanged : Obligations.StepWaitsUnchanged := by
  intro s hx
  have hr : returning s = false := by
    rw [← Bool.not_eq_true, returning_iff]
    exact fun ⟨hsend, hdone⟩ => hx hsend hdone
  refine ⟨fun hs => ?_, fun x rest hs hd => ?_⟩
  · exact step_of_fetch_wait (fetch_of_nil hs hr)
  · have hf : fetch s = .wait (consume rest s) := by
      rw [fetch_eq_readStimulus hs (by simp [hr]), readStimulus_of_decode_none rest hd]
    exact step_of_fetch_wait hf

/-! ### Inputs asserted together -/

theorem select_of_rst (ph : Phase) {p : Pins} (hr : p.rst = true) : select ph p = some .rst := by
  simp [select, hr]

theorem select_of_clear (ph : Phase) {p : Pins} (hr : p.rst = false) (hc : p.clear = true) :
    select ph p = some .clear := by
  simp [select, hr, hc]

section
variable {ph : Phase} {p : Pins}

theorem select_of_ioAbort (hr : p.rst = false) (hc : p.clear = false)
    (hph : inFlight ph = true) (ha : p.ioAbort = true) : select ph p = some .abort := by
  simp [select, hr, hc, hph, ha]

/-- The enabled handshake is selected where no control comes before it: `io_abort` comes before it in
flight only (R195). -/
theorem select_of_handshake {e : Instr} (hr : p.rst = false) (hc : p.clear = false)
    (ha : inFlight ph = true → p.ioAbort = false) (he : handshake ph p = some e) :
    select ph p = some e := by
  have hab : (p.ioAbort && inFlight ph) = false := by
    cases hph : inFlight ph <;> simp [ha, hph]
  simp [select, hr, hc, hab, he]

theorem select_of_no_input (hr : p.rst = false) (hc : p.clear = false) (ha : p.ioAbort = false)
    (hn : handshake ph p = none) : select ph p = none := by
  simp [select, hr, hc, ha, hn]

end

/-- Settles O50: the two resets first, then `io_abort` in flight, then the phase's handshake. -/
theorem portPriority : Obligations.PortPriority := by
  intro ph p
  refine ⟨select_of_rst ph, select_of_clear ph,
    fun hr hc => ⟨?abort, ?cmd, ?txb, ?rxb, ?take, ?nothing⟩⟩
  case abort => exact fun hph => select_of_ioAbort hr hc ((inFlight_iff ph).mpr hph)
  case cmd =>
    rintro rfl hv
    exact select_cmd hr hc hv
  case txb =>
    rintro rfl ha hv
    exact select_of_handshake hr hc (fun _ => ha) (if_pos hv)
  case rxb =>
    rintro rfl ha hv
    exact select_of_handshake hr hc (fun _ => ha) (if_pos hv)
  case take =>
    rintro rfl hv
    exact select_of_handshake hr hc (fun hdone => absurd hdone (by decide)) (if_pos hv)
  case nothing => exact select_of_no_input hr hc

/-! ### How an exchange finishes -/

section
variable {i : Instr} {s t : State}

/-- `TAKE` in DONE is the return to IDLE (R117). -/
theorem eq_returnToIdle_of_take (h : exec .take s = .next t) (hp : s.phase = .done) :
    t = returnToIdle s := by
  rw [exec_take] at h
  exact Host.Outcome.next.inj (h.symm.trans (execTake_of_done hp))

/-- `CLEAR` and `RST` release the block in every phase (R172, R185). -/
theorem eq_release_of_reset (h : exec i s = .next t) (hi : i = .clear ∨ i = .rst) :
    t = release s := by
  have hrelease : exec i s = .next (release s) := by
    rcases hi with rfl | rfl
    · exact exec_clear s
    · exact exec_rst s
  exact Host.Outcome.next.inj (h.symm.trans hrelease)

/-- From a phase other than IDLE an operation leaves the block in an exchange, or returns with the
result, or releases the block (R21, R197). -/
theorem exec_of_ne_idle (h : exec i s = .next t) (hs : s.phase ≠ .idle) :
    t.phase ≠ .idle ∨ (i = .take ∧ s.phase = .done ∧ t = returnToIdle s) ∨
      ((i = .clear ∨ i = .rst) ∧ t = release s) := by
  by_cases ht : t.phase = .idle
  · have hne : t.phase ≠ s.phase := ht ▸ hs.symm
    rcases phaseTransitionsAreR21 i s t h hne with ⟨hidle, _⟩ | ⟨_, hrx, _⟩ | ⟨_, hdone, _⟩ |
      ⟨_, hdone, _⟩ | ⟨hdone, _, rfl⟩ | ⟨_, hi⟩
    · exact absurd hidle hs
    · exact absurd (ht.symm.trans hrx) (by decide)
    · exact absurd (ht.symm.trans hdone) (by decide)
    · exact absurd (ht.symm.trans hdone) (by decide)
    · exact .inr (.inl ⟨rfl, hdone, eq_returnToIdle_of_take h hdone⟩)
    · exact .inr (.inr ⟨hi.symm, eq_release_of_reset h hi.symm⟩)
  · exact .inl ht

end

/-- Settles O59: in each of the three ways an operation can go on from an exchange, how the exchange
ended is known, and so is what was recorded. -/
theorem exchangeFinishesByTakeClearRst : Obligations.ExchangeFinishesByTakeClearRst := by
  intro i s t h hs
  rcases exec_of_ne_idle h hs with ht | ⟨rfl, hp, rfl⟩ | ⟨hi, rfl⟩
  · have hnotake : ¬ (i = .take ∧ s.phase = .done) := by
      rintro ⟨rfl, hp⟩
      exact ht (eq_returnToIdle_of_take h hp ▸ returnToIdle_phase s)
    have hnoreset : ¬ (i = .clear ∨ i = .rst) := fun hi =>
      ht (eq_release_of_reset h hi ▸ release_phase s)
    rw [exchangeEnd_eq_none (.inr ht)]
    exact ⟨by simp [ht], fun r => by simp [← and_assoc, hnotake], by simp, by simp [hnoreset]⟩
  · rw [exchangeEnd_of_taken hs (returnToIdle_phase s) (returnToIdle_taken s)]
    refine ⟨by simp, fun r => by simp [hp], fun r hr => ?_, by simp⟩
    cases hr
    rfl
  · rw [exchangeEnd_of_not_taken hs (release_phase s) (release_taken s)]
    exact ⟨by simp, fun r => by simp, by simp, by simp [hi]⟩

end Sys2Proof.Machine
end
